-- ==== Sys2Proof/Word.lean ====
section
/-! DEFINITION. The word types and the names that stand in operand fields (spec 30_encoding.md R102 to R105). -/

namespace Sys2Proof

/-- Eight bits: a data byte (R10). -/
abbrev Byte := BitVec 8

/-- Sixteen bits: an address or a register pair (R10). -/
abbrev Word := BitVec 16

/-- The seven byte registers an opcode can name (R103). F is not encodable. -/
inductive Reg8 where
  | b | c | d | e | h | l | a
  deriving DecidableEq, Repr

/-- The 8-bit operand field `r` of R103: a byte register, or code 6, the byte at address HL. -/
inductive Operand8 where
  | reg (r : Reg8)
  | atHL
  deriving DecidableEq, Repr

/-- The 16-bit operand field `rr` of R104. -/
inductive Reg16 where
  | bc | de | hl | sp
  deriving DecidableEq, Repr

/-- The 16-bit operand field `rs` of R104 (PUSH and POP). -/
inductive StackPair where
  | bc | de | hl | af
  deriving DecidableEq, Repr

/-- The pointer field `rm` of R104: (BC), (DE), (HL+), (HL-). -/
inductive Pointer where
  | bc | de | hlInc | hlDec
  deriving DecidableEq, Repr

/-- The condition field `cc` of R105. -/
inductive Cond where
  | nz | z | nc | c
  deriving DecidableEq, Repr

/-- The eight two-operand operations on A, in the order of the field `op` of R184. -/
inductive AluOp where
  | add | adc | sub | sbc | and | xor | or | cp
  deriving DecidableEq, Repr

/-- The eight rotates and shifts of the extended table, in the order of `op2[5:3]` (R115). -/
inductive ShiftOp where
  | rlc | rrc | rl | rr | sla | sra | swap | srl
  deriving DecidableEq, Repr

/-- The two directions of R135. -/
inductive Direction where
  | left | right
  deriving DecidableEq, Repr

/-- The five interrupt lines, in priority order (R315). -/
inductive Line where
  | vblank | lcdStat | timer | serial | joypad
  deriving DecidableEq, Repr

end Sys2Proof
end

