-- ==== Sys2Proof/Syntax.lean ====
section
/-! DEFINITION. The instructions: one constructor for each of the 500 rows of spec/opcode_table.json (R122), its operands the immediates
the row's format carries (R101): a byte n8, e8 or a8, or a word n16 or a16. -/

namespace Sys2Proof

/-- The instruction set. Each docstring gives the row's mnemonic in the spec's notation (R119) and the rule of its meaning. -/
inductive Instr where
  /-- NOP (R295). -/
  | nop
  /-- LD BC,n16 (R259). -/
  | ldBCN16 (n16 : Word)
  /-- LD (BC),A (R250). -/
  | ldAtBCA
  /-- INC BC (R201). -/
  | incBC
  /-- INC B (R178). -/
  | incB
  /-- DEC B (R179). -/
  | decB
  /-- LD B,n8 (R246). -/
  | ldBN8 (n8 : Byte)
  /-- RLCA (R210). -/
  | rlca
  /-- LD (a16),SP (R260). -/
  | ldAtA16SP (a16 : Word)
  /-- ADD HL,BC (R200). -/
  | addHLBC
  /-- LD A,(BC) (R249). -/
  | ldAAtBC
  /-- DEC BC (R202). -/
  | decBC
  /-- INC C (R178). -/
  | incC
  /-- DEC C (R179). -/
  | decC
  /-- LD C,n8 (R246). -/
  | ldCN8 (n8 : Byte)
  /-- RRCA (R211). -/
  | rrca
  /-- STOP (R294). -/
  | stop
  /-- LD DE,n16 (R259). -/
  | ldDEN16 (n16 : Word)
  /-- LD (DE),A (R250). -/
  | ldAtDEA
  /-- INC DE (R201). -/
  | incDE
  /-- INC D (R178). -/
  | incD
  /-- DEC D (R179). -/
  | decD
  /-- LD D,n8 (R246). -/
  | ldDN8 (n8 : Byte)
  /-- RLA (R212). -/
  | rla
  /-- JR e8 (R283). -/
  | jrE8 (e8 : Byte)
  /-- ADD HL,DE (R200). -/
  | addHLDE
  /-- LD A,(DE) (R249). -/
  | ldAAtDE
  /-- DEC DE (R202). -/
  | decDE
  /-- INC E (R178). -/
  | incE
  /-- DEC E (R179). -/
  | decE
  /-- LD E,n8 (R246). -/
  | ldEN8 (n8 : Byte)
  /-- RRA (R213). -/
  | rra
  /-- JR NZ,e8 (R284). -/
  | jrNZE8 (e8 : Byte)
  /-- LD HL,n16 (R259). -/
  | ldHLN16 (n16 : Word)
  /-- LD (HL+),A (R253). -/
  | ldAtHLIncA
  /-- INC HL (R201). -/
  | incHL
  /-- INC H (R178). -/
  | incH
  /-- DEC H (R179). -/
  | decH
  /-- LD H,n8 (R246). -/
  | ldHN8 (n8 : Byte)
  /-- DAA (R180). -/
  | daa
  /-- JR Z,e8 (R284). -/
  | jrZE8 (e8 : Byte)
  /-- ADD HL,HL (R200). -/
  | addHLHL
  /-- LD A,(HL+) (R251). -/
  | ldAAtHLInc
  /-- DEC HL (R202). -/
  | decHL
  /-- INC L (R178). -/
  | incL
  /-- DEC L (R179). -/
  | decL
  /-- LD L,n8 (R246). -/
  | ldLN8 (n8 : Byte)
  /-- CPL (R181). -/
  | cpl
  /-- JR NC,e8 (R284). -/
  | jrNCE8 (e8 : Byte)
  /-- LD SP,n16 (R259). -/
  | ldSPN16 (n16 : Word)
  /-- LD (HL-),A (R254). -/
  | ldAtHLDecA
  /-- INC SP (R201). -/
  | incSP
  /-- INC (HL) (R178). -/
  | incAtHL
  /-- DEC (HL) (R179). -/
  | decAtHL
  /-- LD (HL),n8 (R248). -/
  | ldAtHLN8 (n8 : Byte)
  /-- SCF (R182). -/
  | scf
  /-- JR C,e8 (R284). -/
  | jrCE8 (e8 : Byte)
  /-- ADD HL,SP (R200). -/
  | addHLSP
  /-- LD A,(HL-) (R252). -/
  | ldAAtHLDec
  /-- DEC SP (R202). -/
  | decSP
  /-- INC A (R178). -/
  | incA
  /-- DEC A (R179). -/
  | decA
  /-- LD A,n8 (R246). -/
  | ldAN8 (n8 : Byte)
  /-- CCF (R183). -/
  | ccf
  /-- LD B,B (R245). -/
  | ldBB
  /-- LD B,C (R245). -/
  | ldBC
  /-- LD B,D (R245). -/
  | ldBD
  /-- LD B,E (R245). -/
  | ldBE
  /-- LD B,H (R245). -/
  | ldBH
  /-- LD B,L (R245). -/
  | ldBL
  /-- LD B,(HL) (R247). -/
  | ldBAtHL
  /-- LD B,A (R245). -/
  | ldBA
  /-- LD C,B (R245). -/
  | ldCB
  /-- LD C,C (R245). -/
  | ldCC
  /-- LD C,D (R245). -/
  | ldCD
  /-- LD C,E (R245). -/
  | ldCE
  /-- LD C,H (R245). -/
  | ldCH
  /-- LD C,L (R245). -/
  | ldCL
  /-- LD C,(HL) (R247). -/
  | ldCAtHL
  /-- LD C,A (R245). -/
  | ldCA
  /-- LD D,B (R245). -/
  | ldDB
  /-- LD D,C (R245). -/
  | ldDC
  /-- LD D,D (R245). -/
  | ldDD
  /-- LD D,E (R245). -/
  | ldDE
  /-- LD D,H (R245). -/
  | ldDH
  /-- LD D,L (R245). -/
  | ldDL
  /-- LD D,(HL) (R247). -/
  | ldDAtHL
  /-- LD D,A (R245). -/
  | ldDA
  /-- LD E,B (R245). -/
  | ldEB
  /-- LD E,C (R245). -/
  | ldEC
  /-- LD E,D (R245). -/
  | ldED
  /-- LD E,E (R245). -/
  | ldEE
  /-- LD E,H (R245). -/
  | ldEH
  /-- LD E,L (R245). -/
  | ldEL
  /-- LD E,(HL) (R247). -/
  | ldEAtHL
  /-- LD E,A (R245). -/
  | ldEA
  /-- LD H,B (R245). -/
  | ldHB
  /-- LD H,C (R245). -/
  | ldHC
  /-- LD H,D (R245). -/
  | ldHD
  /-- LD H,E (R245). -/
  | ldHE
  /-- LD H,H (R245). -/
  | ldHH
  /-- LD H,L (R245). -/
  | ldHL
  /-- LD H,(HL) (R247). -/
  | ldHAtHL
  /-- LD H,A (R245). -/
  | ldHA
  /-- LD L,B (R245). -/
  | ldLB
  /-- LD L,C (R245). -/
  | ldLC
  /-- LD L,D (R245). -/
  | ldLD
  /-- LD L,E (R245). -/
  | ldLE
  /-- LD L,H (R245). -/
  | ldLH
  /-- LD L,L (R245). -/
  | ldLL
  /-- LD L,(HL) (R247). -/
  | ldLAtHL
  /-- LD L,A (R245). -/
  | ldLA
  /-- LD (HL),B (R244). -/
  | ldAtHLB
  /-- LD (HL),C (R244). -/
  | ldAtHLC
  /-- LD (HL),D (R244). -/
  | ldAtHLD
  /-- LD (HL),E (R244). -/
  | ldAtHLE
  /-- LD (HL),H (R244). -/
  | ldAtHLH
  /-- LD (HL),L (R244). -/
  | ldAtHLL
  /-- HALT (R293). -/
  | halt
  /-- LD (HL),A (R244). -/
  | ldAtHLA
  /-- LD A,B (R245). -/
  | ldAB
  /-- LD A,C (R245). -/
  | ldAC
  /-- LD A,D (R245). -/
  | ldAD
  /-- LD A,E (R245). -/
  | ldAE
  /-- LD A,H (R245). -/
  | ldAH
  /-- LD A,L (R245). -/
  | ldAL
  /-- LD A,(HL) (R247). -/
  | ldAAtHL
  /-- LD A,A (R245). -/
  | ldAA
  /-- ADD A,B (R170). -/
  | addAB
  /-- ADD A,C (R170). -/
  | addAC
  /-- ADD A,D (R170). -/
  | addAD
  /-- ADD A,E (R170). -/
  | addAE
  /-- ADD A,H (R170). -/
  | addAH
  /-- ADD A,L (R170). -/
  | addAL
  /-- ADD A,(HL) (R170). -/
  | addAAtHL
  /-- ADD A,A (R170). -/
  | addAA
  /-- ADC A,B (R171). -/
  | adcAB
  /-- ADC A,C (R171). -/
  | adcAC
  /-- ADC A,D (R171). -/
  | adcAD
  /-- ADC A,E (R171). -/
  | adcAE
  /-- ADC A,H (R171). -/
  | adcAH
  /-- ADC A,L (R171). -/
  | adcAL
  /-- ADC A,(HL) (R171). -/
  | adcAAtHL
  /-- ADC A,A (R171). -/
  | adcAA
  /-- SUB B (R172). -/
  | subB
  /-- SUB C (R172). -/
  | subC
  /-- SUB D (R172). -/
  | subD
  /-- SUB E (R172). -/
  | subE
  /-- SUB H (R172). -/
  | subH
  /-- SUB L (R172). -/
  | subL
  /-- SUB (HL) (R172). -/
  | subAtHL
  /-- SUB A (R172). -/
  | subA
  /-- SBC A,B (R173). -/
  | sbcAB
  /-- SBC A,C (R173). -/
  | sbcAC
  /-- SBC A,D (R173). -/
  | sbcAD
  /-- SBC A,E (R173). -/
  | sbcAE
  /-- SBC A,H (R173). -/
  | sbcAH
  /-- SBC A,L (R173). -/
  | sbcAL
  /-- SBC A,(HL) (R173). -/
  | sbcAAtHL
  /-- SBC A,A (R173). -/
  | sbcAA
  /-- AND B (R174). -/
  | andB
  /-- AND C (R174). -/
  | andC
  /-- AND D (R174). -/
  | andD
  /-- AND E (R174). -/
  | andE
  /-- AND H (R174). -/
  | andH
  /-- AND L (R174). -/
  | andL
  /-- AND (HL) (R174). -/
  | andAtHL
  /-- AND A (R174). -/
  | andA
  /-- XOR B (R175). -/
  | xorB
  /-- XOR C (R175). -/
  | xorC
  /-- XOR D (R175). -/
  | xorD
  /-- XOR E (R175). -/
  | xorE
  /-- XOR H (R175). -/
  | xorH
  /-- XOR L (R175). -/
  | xorL
  /-- XOR (HL) (R175). -/
  | xorAtHL
  /-- XOR A (R175). -/
  | xorA
  /-- OR B (R176). -/
  | orB
  /-- OR C (R176). -/
  | orC
  /-- OR D (R176). -/
  | orD
  /-- OR E (R176). -/
  | orE
  /-- OR H (R176). -/
  | orH
  /-- OR L (R176). -/
  | orL
  /-- OR (HL) (R176). -/
  | orAtHL
  /-- OR A (R176). -/
  | orA
  /-- CP B (R177). -/
  | cpB
  /-- CP C (R177). -/
  | cpC
  /-- CP D (R177). -/
  | cpD
  /-- CP E (R177). -/
  | cpE
  /-- CP H (R177). -/
  | cpH
  /-- CP L (R177). -/
  | cpL
  /-- CP (HL) (R177). -/
  | cpAtHL
  /-- CP A (R177). -/
  | cpA
  /-- RET NZ (R289). -/
  | retNZ
  /-- POP BC (R263). -/
  | popBC
  /-- JP NZ,a16 (R281). -/
  | jpNZA16 (a16 : Word)
  /-- JP a16 (R280). -/
  | jpA16 (a16 : Word)
  /-- CALL NZ,a16 (R287). -/
  | callNZA16 (a16 : Word)
  /-- PUSH BC (R262). -/
  | pushBC
  /-- ADD A,n8 (R170). -/
  | addAN8 (n8 : Byte)
  /-- RST 0x00 (R290). -/
  | rst00
  /-- RET Z (R289). -/
  | retZ
  /-- RET (R288). -/
  | ret
  /-- JP Z,a16 (R281). -/
  | jpZA16 (a16 : Word)
  /-- CALL Z,a16 (R287). -/
  | callZA16 (a16 : Word)
  /-- CALL a16 (R286). -/
  | callA16 (a16 : Word)
  /-- ADC A,n8 (R171). -/
  | adcAN8 (n8 : Byte)
  /-- RST 0x08 (R290). -/
  | rst08
  /-- RET NC (R289). -/
  | retNC
  /-- POP DE (R263). -/
  | popDE
  /-- JP NC,a16 (R281). -/
  | jpNCA16 (a16 : Word)
  /-- CALL NC,a16 (R287). -/
  | callNCA16 (a16 : Word)
  /-- PUSH DE (R262). -/
  | pushDE
  /-- SUB n8 (R172). -/
  | subN8 (n8 : Byte)
  /-- RST 0x10 (R290). -/
  | rst10
  /-- RET C (R289). -/
  | retC
  /-- RETI (R292). -/
  | reti
  /-- JP C,a16 (R281). -/
  | jpCA16 (a16 : Word)
  /-- CALL C,a16 (R287). -/
  | callCA16 (a16 : Word)
  /-- SBC A,n8 (R173). -/
  | sbcAN8 (n8 : Byte)
  /-- RST 0x18 (R290). -/
  | rst18
  /-- LDH (a8),A (R256). -/
  | ldhAtA8A (a8 : Byte)
  /-- POP HL (R263). -/
  | popHL
  /-- LD (C),A (R258). -/
  | ldAtCA
  /-- PUSH HL (R262). -/
  | pushHL
  /-- AND n8 (R174). -/
  | andN8 (n8 : Byte)
  /-- RST 0x20 (R290). -/
  | rst20
  /-- ADD SP,e8 (R203). -/
  | addSPE8 (e8 : Byte)
  /-- JP HL (R282). -/
  | jpHL
  /-- LD (a16),A (R265). -/
  | ldAtA16A (a16 : Word)
  /-- XOR n8 (R175). -/
  | xorN8 (n8 : Byte)
  /-- RST 0x28 (R290). -/
  | rst28
  /-- LDH A,(a8) (R255). -/
  | ldhAAtA8 (a8 : Byte)
  /-- POP AF (R263). -/
  | popAF
  /-- LD A,(C) (R257). -/
  | ldAAtC
  /-- DI (R297). -/
  | di
  /-- PUSH AF (R262). -/
  | pushAF
  /-- OR n8 (R176). -/
  | orN8 (n8 : Byte)
  /-- RST 0x30 (R290). -/
  | rst30
  /-- LD HL,SP+e8 (R204). -/
  | ldHLSPE8 (e8 : Byte)
  /-- LD SP,HL (R261). -/
  | ldSPHL
  /-- LD A,(a16) (R264). -/
  | ldAAtA16 (a16 : Word)
  /-- EI (R298). -/
  | ei
  /-- CP n8 (R177). -/
  | cpN8 (n8 : Byte)
  /-- RST 0x38 (R290). -/
  | rst38
  /-- RLC B (R214). -/
  | rlcB
  /-- RLC C (R214). -/
  | rlcC
  /-- RLC D (R214). -/
  | rlcD
  /-- RLC E (R214). -/
  | rlcE
  /-- RLC H (R214). -/
  | rlcH
  /-- RLC L (R214). -/
  | rlcL
  /-- RLC (HL) (R214). -/
  | rlcAtHL
  /-- RLC A (R214). -/
  | rlcA
  /-- RRC B (R215). -/
  | rrcB
  /-- RRC C (R215). -/
  | rrcC
  /-- RRC D (R215). -/
  | rrcD
  /-- RRC E (R215). -/
  | rrcE
  /-- RRC H (R215). -/
  | rrcH
  /-- RRC L (R215). -/
  | rrcL
  /-- RRC (HL) (R215). -/
  | rrcAtHL
  /-- RRC A (R215). -/
  | rrcA
  /-- RL B (R216). -/
  | rlB
  /-- RL C (R216). -/
  | rlC
  /-- RL D (R216). -/
  | rlD
  /-- RL E (R216). -/
  | rlE
  /-- RL H (R216). -/
  | rlH
  /-- RL L (R216). -/
  | rlL
  /-- RL (HL) (R216). -/
  | rlAtHL
  /-- RL A (R216). -/
  | rlA
  /-- RR B (R217). -/
  | rrB
  /-- RR C (R217). -/
  | rrC
  /-- RR D (R217). -/
  | rrD
  /-- RR E (R217). -/
  | rrE
  /-- RR H (R217). -/
  | rrH
  /-- RR L (R217). -/
  | rrL
  /-- RR (HL) (R217). -/
  | rrAtHL
  /-- RR A (R217). -/
  | rrA
  /-- SLA B (R218). -/
  | slaB
  /-- SLA C (R218). -/
  | slaC
  /-- SLA D (R218). -/
  | slaD
  /-- SLA E (R218). -/
  | slaE
  /-- SLA H (R218). -/
  | slaH
  /-- SLA L (R218). -/
  | slaL
  /-- SLA (HL) (R218). -/
  | slaAtHL
  /-- SLA A (R218). -/
  | slaA
  /-- SRA B (R219). -/
  | sraB
  /-- SRA C (R219). -/
  | sraC
  /-- SRA D (R219). -/
  | sraD
  /-- SRA E (R219). -/
  | sraE
  /-- SRA H (R219). -/
  | sraH
  /-- SRA L (R219). -/
  | sraL
  /-- SRA (HL) (R219). -/
  | sraAtHL
  /-- SRA A (R219). -/
  | sraA
  /-- SWAP B (R220). -/
  | swapB
  /-- SWAP C (R220). -/
  | swapC
  /-- SWAP D (R220). -/
  | swapD
  /-- SWAP E (R220). -/
  | swapE
  /-- SWAP H (R220). -/
  | swapH
  /-- SWAP L (R220). -/
  | swapL
  /-- SWAP (HL) (R220). -/
  | swapAtHL
  /-- SWAP A (R220). -/
  | swapA
  /-- SRL B (R221). -/
  | srlB
  /-- SRL C (R221). -/
  | srlC
  /-- SRL D (R221). -/
  | srlD
  /-- SRL E (R221). -/
  | srlE
  /-- SRL H (R221). -/
  | srlH
  /-- SRL L (R221). -/
  | srlL
  /-- SRL (HL) (R221). -/
  | srlAtHL
  /-- SRL A (R221). -/
  | srlA
  /-- BIT 0,B (R222). -/
  | bit0B
  /-- BIT 0,C (R222). -/
  | bit0C
  /-- BIT 0,D (R222). -/
  | bit0D
  /-- BIT 0,E (R222). -/
  | bit0E
  /-- BIT 0,H (R222). -/
  | bit0H
  /-- BIT 0,L (R222). -/
  | bit0L
  /-- BIT 0,(HL) (R222). -/
  | bit0AtHL
  /-- BIT 0,A (R222). -/
  | bit0A
  /-- BIT 1,B (R222). -/
  | bit1B
  /-- BIT 1,C (R222). -/
  | bit1C
  /-- BIT 1,D (R222). -/
  | bit1D
  /-- BIT 1,E (R222). -/
  | bit1E
  /-- BIT 1,H (R222). -/
  | bit1H
  /-- BIT 1,L (R222). -/
  | bit1L
  /-- BIT 1,(HL) (R222). -/
  | bit1AtHL
  /-- BIT 1,A (R222). -/
  | bit1A
  /-- BIT 2,B (R222). -/
  | bit2B
  /-- BIT 2,C (R222). -/
  | bit2C
  /-- BIT 2,D (R222). -/
  | bit2D
  /-- BIT 2,E (R222). -/
  | bit2E
  /-- BIT 2,H (R222). -/
  | bit2H
  /-- BIT 2,L (R222). -/
  | bit2L
  /-- BIT 2,(HL) (R222). -/
  | bit2AtHL
  /-- BIT 2,A (R222). -/
  | bit2A
  /-- BIT 3,B (R222). -/
  | bit3B
  /-- BIT 3,C (R222). -/
  | bit3C
  /-- BIT 3,D (R222). -/
  | bit3D
  /-- BIT 3,E (R222). -/
  | bit3E
  /-- BIT 3,H (R222). -/
  | bit3H
  /-- BIT 3,L (R222). -/
  | bit3L
  /-- BIT 3,(HL) (R222). -/
  | bit3AtHL
  /-- BIT 3,A (R222). -/
  | bit3A
  /-- BIT 4,B (R222). -/
  | bit4B
  /-- BIT 4,C (R222). -/
  | bit4C
  /-- BIT 4,D (R222). -/
  | bit4D
  /-- BIT 4,E (R222). -/
  | bit4E
  /-- BIT 4,H (R222). -/
  | bit4H
  /-- BIT 4,L (R222). -/
  | bit4L
  /-- BIT 4,(HL) (R222). -/
  | bit4AtHL
  /-- BIT 4,A (R222). -/
  | bit4A
  /-- BIT 5,B (R222). -/
  | bit5B
  /-- BIT 5,C (R222). -/
  | bit5C
  /-- BIT 5,D (R222). -/
  | bit5D
  /-- BIT 5,E (R222). -/
  | bit5E
  /-- BIT 5,H (R222). -/
  | bit5H
  /-- BIT 5,L (R222). -/
  | bit5L
  /-- BIT 5,(HL) (R222). -/
  | bit5AtHL
  /-- BIT 5,A (R222). -/
  | bit5A
  /-- BIT 6,B (R222). -/
  | bit6B
  /-- BIT 6,C (R222). -/
  | bit6C
  /-- BIT 6,D (R222). -/
  | bit6D
  /-- BIT 6,E (R222). -/
  | bit6E
  /-- BIT 6,H (R222). -/
  | bit6H
  /-- BIT 6,L (R222). -/
  | bit6L
  /-- BIT 6,(HL) (R222). -/
  | bit6AtHL
  /-- BIT 6,A (R222). -/
  | bit6A
  /-- BIT 7,B (R222). -/
  | bit7B
  /-- BIT 7,C (R222). -/
  | bit7C
  /-- BIT 7,D (R222). -/
  | bit7D
  /-- BIT 7,E (R222). -/
  | bit7E
  /-- BIT 7,H (R222). -/
  | bit7H
  /-- BIT 7,L (R222). -/
  | bit7L
  /-- BIT 7,(HL) (R222). -/
  | bit7AtHL
  /-- BIT 7,A (R222). -/
  | bit7A
  /-- RES 0,B (R223). -/
  | res0B
  /-- RES 0,C (R223). -/
  | res0C
  /-- RES 0,D (R223). -/
  | res0D
  /-- RES 0,E (R223). -/
  | res0E
  /-- RES 0,H (R223). -/
  | res0H
  /-- RES 0,L (R223). -/
  | res0L
  /-- RES 0,(HL) (R223). -/
  | res0AtHL
  /-- RES 0,A (R223). -/
  | res0A
  /-- RES 1,B (R223). -/
  | res1B
  /-- RES 1,C (R223). -/
  | res1C
  /-- RES 1,D (R223). -/
  | res1D
  /-- RES 1,E (R223). -/
  | res1E
  /-- RES 1,H (R223). -/
  | res1H
  /-- RES 1,L (R223). -/
  | res1L
  /-- RES 1,(HL) (R223). -/
  | res1AtHL
  /-- RES 1,A (R223). -/
  | res1A
  /-- RES 2,B (R223). -/
  | res2B
  /-- RES 2,C (R223). -/
  | res2C
  /-- RES 2,D (R223). -/
  | res2D
  /-- RES 2,E (R223). -/
  | res2E
  /-- RES 2,H (R223). -/
  | res2H
  /-- RES 2,L (R223). -/
  | res2L
  /-- RES 2,(HL) (R223). -/
  | res2AtHL
  /-- RES 2,A (R223). -/
  | res2A
  /-- RES 3,B (R223). -/
  | res3B
  /-- RES 3,C (R223). -/
  | res3C
  /-- RES 3,D (R223). -/
  | res3D
  /-- RES 3,E (R223). -/
  | res3E
  /-- RES 3,H (R223). -/
  | res3H
  /-- RES 3,L (R223). -/
  | res3L
  /-- RES 3,(HL) (R223). -/
  | res3AtHL
  /-- RES 3,A (R223). -/
  | res3A
  /-- RES 4,B (R223). -/
  | res4B
  /-- RES 4,C (R223). -/
  | res4C
  /-- RES 4,D (R223). -/
  | res4D
  /-- RES 4,E (R223). -/
  | res4E
  /-- RES 4,H (R223). -/
  | res4H
  /-- RES 4,L (R223). -/
  | res4L
  /-- RES 4,(HL) (R223). -/
  | res4AtHL
  /-- RES 4,A (R223). -/
  | res4A
  /-- RES 5,B (R223). -/
  | res5B
  /-- RES 5,C (R223). -/
  | res5C
  /-- RES 5,D (R223). -/
  | res5D
  /-- RES 5,E (R223). -/
  | res5E
  /-- RES 5,H (R223). -/
  | res5H
  /-- RES 5,L (R223). -/
  | res5L
  /-- RES 5,(HL) (R223). -/
  | res5AtHL
  /-- RES 5,A (R223). -/
  | res5A
  /-- RES 6,B (R223). -/
  | res6B
  /-- RES 6,C (R223). -/
  | res6C
  /-- RES 6,D (R223). -/
  | res6D
  /-- RES 6,E (R223). -/
  | res6E
  /-- RES 6,H (R223). -/
  | res6H
  /-- RES 6,L (R223). -/
  | res6L
  /-- RES 6,(HL) (R223). -/
  | res6AtHL
  /-- RES 6,A (R223). -/
  | res6A
  /-- RES 7,B (R223). -/
  | res7B
  /-- RES 7,C (R223). -/
  | res7C
  /-- RES 7,D (R223). -/
  | res7D
  /-- RES 7,E (R223). -/
  | res7E
  /-- RES 7,H (R223). -/
  | res7H
  /-- RES 7,L (R223). -/
  | res7L
  /-- RES 7,(HL) (R223). -/
  | res7AtHL
  /-- RES 7,A (R223). -/
  | res7A
  /-- SET 0,B (R224). -/
  | set0B
  /-- SET 0,C (R224). -/
  | set0C
  /-- SET 0,D (R224). -/
  | set0D
  /-- SET 0,E (R224). -/
  | set0E
  /-- SET 0,H (R224). -/
  | set0H
  /-- SET 0,L (R224). -/
  | set0L
  /-- SET 0,(HL) (R224). -/
  | set0AtHL
  /-- SET 0,A (R224). -/
  | set0A
  /-- SET 1,B (R224). -/
  | set1B
  /-- SET 1,C (R224). -/
  | set1C
  /-- SET 1,D (R224). -/
  | set1D
  /-- SET 1,E (R224). -/
  | set1E
  /-- SET 1,H (R224). -/
  | set1H
  /-- SET 1,L (R224). -/
  | set1L
  /-- SET 1,(HL) (R224). -/
  | set1AtHL
  /-- SET 1,A (R224). -/
  | set1A
  /-- SET 2,B (R224). -/
  | set2B
  /-- SET 2,C (R224). -/
  | set2C
  /-- SET 2,D (R224). -/
  | set2D
  /-- SET 2,E (R224). -/
  | set2E
  /-- SET 2,H (R224). -/
  | set2H
  /-- SET 2,L (R224). -/
  | set2L
  /-- SET 2,(HL) (R224). -/
  | set2AtHL
  /-- SET 2,A (R224). -/
  | set2A
  /-- SET 3,B (R224). -/
  | set3B
  /-- SET 3,C (R224). -/
  | set3C
  /-- SET 3,D (R224). -/
  | set3D
  /-- SET 3,E (R224). -/
  | set3E
  /-- SET 3,H (R224). -/
  | set3H
  /-- SET 3,L (R224). -/
  | set3L
  /-- SET 3,(HL) (R224). -/
  | set3AtHL
  /-- SET 3,A (R224). -/
  | set3A
  /-- SET 4,B (R224). -/
  | set4B
  /-- SET 4,C (R224). -/
  | set4C
  /-- SET 4,D (R224). -/
  | set4D
  /-- SET 4,E (R224). -/
  | set4E
  /-- SET 4,H (R224). -/
  | set4H
  /-- SET 4,L (R224). -/
  | set4L
  /-- SET 4,(HL) (R224). -/
  | set4AtHL
  /-- SET 4,A (R224). -/
  | set4A
  /-- SET 5,B (R224). -/
  | set5B
  /-- SET 5,C (R224). -/
  | set5C
  /-- SET 5,D (R224). -/
  | set5D
  /-- SET 5,E (R224). -/
  | set5E
  /-- SET 5,H (R224). -/
  | set5H
  /-- SET 5,L (R224). -/
  | set5L
  /-- SET 5,(HL) (R224). -/
  | set5AtHL
  /-- SET 5,A (R224). -/
  | set5A
  /-- SET 6,B (R224). -/
  | set6B
  /-- SET 6,C (R224). -/
  | set6C
  /-- SET 6,D (R224). -/
  | set6D
  /-- SET 6,E (R224). -/
  | set6E
  /-- SET 6,H (R224). -/
  | set6H
  /-- SET 6,L (R224). -/
  | set6L
  /-- SET 6,(HL) (R224). -/
  | set6AtHL
  /-- SET 6,A (R224). -/
  | set6A
  /-- SET 7,B (R224). -/
  | set7B
  /-- SET 7,C (R224). -/
  | set7C
  /-- SET 7,D (R224). -/
  | set7D
  /-- SET 7,E (R224). -/
  | set7E
  /-- SET 7,H (R224). -/
  | set7H
  /-- SET 7,L (R224). -/
  | set7L
  /-- SET 7,(HL) (R224). -/
  | set7AtHL
  /-- SET 7,A (R224). -/
  | set7A
  deriving DecidableEq, Repr

end Sys2Proof
end

