-- ==== Sys2Proof/WellFormed.lean ====
section
/-! DEFINITION. What is well formed. An `Instr` carries operands of exactly the width its encoding holds, so every term of it is well
formed; what can be ill formed is a string of bytes, and each check on one is here (spec 30_encoding.md R116, R117). -/

namespace Sys2Proof

/-- The eleven base opcode bytes without a table entry (R116). -/
def undefinedOpcodes : List Byte := [0xD3, 0xDB, 0xDD, 0xE3, 0xE4, 0xEB, 0xEC, 0xED, 0xF4, 0xFC, 0xFD]

/-- The opcodes of length 3 that R117 lists: LD rr,n16; LD (a16),SP; JP a16; JP cc,a16; CALL a16; CALL cc,a16; LD (a16),A; LD A,(a16). -/
def threeByteOpcodes : List Byte :=
  [0x01, 0x11, 0x21, 0x31, 0x08, 0xC3, 0xC2, 0xCA, 0xD2, 0xDA, 0xCD, 0xC4, 0xCC, 0xD4, 0xDC, 0xEA, 0xFA]

/-- The opcodes of length 2 that R117 lists: LD r,n8 with LD (HL),n8; the eight ALU immediates; JR and JR cc; LDH (a8),A; LDH A,(a8);
ADD SP,e8; LD HL,SP+e8; STOP; and the byte 0xCB. -/
def twoByteOpcodes : List Byte :=
  [0x06, 0x0E, 0x16, 0x1E, 0x26, 0x2E, 0x36, 0x3E, 0xC6, 0xCE, 0xD6, 0xDE, 0xE6, 0xEE, 0xF6, 0xFE, 0x18, 0x20, 0x28, 0x30, 0x38,
    0xE0, 0xF0, 0xE8, 0xF8, 0x10, 0xCB]

/-- R117: the length of the instruction that begins with a byte. -/
def lengthOf (op : Byte) : Nat :=
  if op ∈ threeByteOpcodes then 3 else if op ∈ twoByteOpcodes then 2 else 1

/-- Whether bytes are exactly one instruction: a first byte that is defined, and as many bytes as it asks for. -/
def wellFormedBytes : List Byte → Bool
  | [] => false
  | op :: rest => !(decide (op ∈ undefinedOpcodes)) && (rest.length + 1 == lengthOf op)

/-- Every instruction is well formed: each operand field has exactly the width the encoding gives it. -/
def Instr.wellFormed (_ : Instr) : Bool := true

end Sys2Proof
end

