-- ==== Sys2Proof/Machine/BitOps.lean ====
section
/-! DEFINITION. BitOps: the pure bit functions of spec 40_bitops_alu.md section 1, and the extensions of R12. -/

namespace Sys2Proof.Machine

/-- R130 `lsb4`. -/
def lsb4 (v : Byte) : BitVec 4 := v.extractLsb' 0 4
/-- R130 `msb4`. -/
def msb4 (v : Byte) : BitVec 4 := v.extractLsb' 4 4
/-- R130 `lsb8`, R12 `lo8`. -/
def lo8 (w : Word) : Byte := w.extractLsb' 0 8
/-- R130 `msb8`, R12 `hi8`. -/
def hi8 (w : Word) : Byte := w.extractLsb' 8 8

/-- R131 `merge4`: the arguments are named by role, and bits above their nibble are ignored. -/
def merge4 (low high : Byte) : Byte := lsb4 high ++ lsb4 low
/-- R131 `merge8`. -/
def merge8 (low high : Byte) : Word := high ++ low

/-- R132: "index clamped into [0,7]" read as saturation (decision D26). -/
def clampIndex (index : Int) : Nat := min index.toNat 7

/-- R132 `bit_get`. -/
def bitGet (value : Byte) (index : Int) : Bool := value.getLsbD (clampIndex index)
/-- R133 `bit_set`. -/
def bitSet (value : Byte) (index : Int) : Byte := value ||| (1#8 <<< clampIndex index)
/-- R133 `bit_unset`. -/
def bitUnset (value : Byte) (index : Int) : Byte := value &&& ~~~(1#8 <<< clampIndex index)
/-- R133 `bit_edit`: "chooses set vs unset based on whether `v` is zero". -/
def bitEdit (value : Byte) (index : Int) (v : Byte) : Byte :=
  if v = 0 then bitUnset value index else bitSet value index
/-- R134 `bit_rotate`, its distance saturated like an index. -/
def bitRotate (value : Byte) (dir : Direction) (distance : Int) : Byte :=
  match dir with
  | .left => (value <<< clampIndex distance) ||| (value >>> (8 - clampIndex distance))
  | .right => (value >>> clampIndex distance) ||| (value <<< (8 - clampIndex distance))

/-- R12 `sext_16`. -/
def sext16 (v : Byte) : Word := v.signExtend 16
/-- R12 `zext_16`. -/
def zext16 (v : Byte) : Word := v.setWidth 16

end Sys2Proof.Machine
end

