-- ==== Sys2Proof/Config.lean ====
section
/-! DEFINITION. What an implementation fixes: the implementation parameters of spec 00_scope.md R11. -/

namespace Sys2Proof

/-- The two OPEN parameters of R11 (decisions D5 and D6). They are a field of State that no step changes, so a statement over
all states holds for every value of them. Log entries 2 and 3. -/
structure Params where
  /-- `TIMER_INC`, added to the timer counter in every machine cycle (R331). -/
  timerInc : Nat
  /-- `INT_SERVICE_CYCLES`, added to `idle` by an interrupt dispatch (R314). -/
  intServiceCycles : Nat
  deriving DecidableEq, Repr

/-- The defaults R11 names: `TIMER_INC` 4 and `INT_SERVICE_CYCLES` 5. -/
def Params.default : Params := { timerInc := 4, intServiceCycles := 5 }

namespace Config

/-- `DIV_ADDR` (R11, decision D7; log entry 4). -/
def divAddr : Word := 0xFF04
/-- `TIMA_ADDR` (R11, decision D7; log entry 4). -/
def timaAddr : Word := 0xFF05
/-- `TMA_ADDR` (R11, decision D7; log entry 4). -/
def tmaAddr : Word := 0xFF06
/-- `TAC_ADDR` (R11, decision D7; log entry 4). -/
def tacAddr : Word := 0xFF07
/-- `IF_ADDR` (R11). -/
def ifAddr : Word := 0xFF0F
/-- `IE_ADDR` (R11). -/
def ieAddr : Word := 0xFFFF
/-- The boot-ROM-disable register (R38). -/
def bootDisableAddr : Word := 0xFF50
/-- The base of the I/O window of the short-form loads (R110). -/
def windowBase : Word := 0xFF00
/-- First address of the cartridge component's full range (R81). -/
def cartFirst : Word := 0x0000
/-- Last address of the cartridge component's full range (R81). -/
def cartLast : Word := 0x7FFF

end Config

end Sys2Proof
end

