-- ==== Sys2Proof/Machine/State.lean ====
section
/-! DEFINITION. The state of the machine (spec 10_state.md), the reasons a step can stop, and the state at reset (R51, R360 to R364). -/

namespace Sys2Proof.Machine

/-- The flags of R23, "4 boolean flags {Z, N, H, C}". F's low nibble is hard-wired to zero, so F IS these four bits: its byte is
`Flags.toByte`, and a write of a byte to F is `Flags.ofByte` (R22). The `flags` of an ALU result have the same form. -/
structure Flags where
  z : Bool
  n : Bool
  h : Bool
  c : Bool
  deriving DecidableEq, Repr

/-- An ALU result (R140): a value of 8 or 16 bits in a 16-bit field, and flags. -/
structure AluResult where
  value : Word
  flags : Flags
  deriving DecidableEq, Repr

/-- R42 and R316: `{0, no flags}`, what `scratch` holds when an instruction starts. -/
def AluResult.empty : AluResult := { value := 0, flags := { z := false, n := false, h := false, c := false } }

/-- The register file of R20. A pair is not separate storage (R21). -/
structure Regs where
  a : Byte
  f : Flags
  b : Byte
  c : Byte
  d : Byte
  e : Byte
  h : Byte
  l : Byte
  deriving DecidableEq, Repr

/-- What the cells of one stretch of the bus refer to (R45). `mem block offset` is the block's id and the offset of the byte the
FIRST address of the stretch shows. -/
inductive Target where
  | unmapped
  | ieReg
  | ifReg
  | mem (block offset : Nat)
  deriving DecidableEq, Repr

/-- A stretch of cells set by one bus operation: addresses `first` to `last`, inclusive. -/
structure Segment where
  first : Word
  last : Word
  target : Target
  deriving DecidableEq, Repr

/-- What ONE cell refers to (R45), a memory byte by its index in the store (`State.mem`). -/
inductive Place where
  | unmapped
  | ieReg
  | ifReg
  | mem (index : Nat)
  deriving DecidableEq, Repr

/-- A component (R46): its recorded range, and the id of its memory block (`none` for a component without memory). -/
structure Component where
  range : Option (Word × Word)
  block : Option Nat
  deriving DecidableEq, Repr

/-- A memory block (R47): its id, which is the index of its byte 0 in the store, and its size. -/
structure Block where
  id : Nat
  size : Nat
  deriving DecidableEq, Repr

/-- One move of the environment (R9, R66 to R73, R322). Components are named by their number in `State.components`. -/
inductive EnvMove where
  /-- `RequestInterrupt(line)` (R322). -/
  | request (line : Line)
  /-- A raw bus write to a cell of the environment's own devices (R9, R92). -/
  | write (address : Word) (value : Byte)
  /-- `ComponentCreate(size)` (R66). -/
  | create (size : Nat)
  /-- `ComponentShared(dst, src)` (R67). -/
  | share (dst src : Nat)
  /-- `BusPlug(c, start, end)` (R68). -/
  | plug (component : Nat) (first last : Word)
  /-- `BusForcedPlug(c, start, end, offset)` (R69). -/
  | forcedPlug (component : Nat) (first last : Word) (offset : Nat)
  /-- `BusUnplug(c)` (R70). -/
  | unplug (component : Nat)
  /-- Attaching the CPU binds the IF and IE cells (R33, R364). -/
  | attachCpu
  /-- Loading an image into a component's block from offset 0 (R51, R362). -/
  | load (component : Nat) (image : List Byte)
  deriving DecidableEq, Repr

/-- The components the boot-ROM-disable listener exchanges (R84). -/
structure BootListener where
  boot : Nat
  cartridge : Nat
  deriving DecidableEq, Repr

/-- The whole machine: plain data. -/
structure State where
  /-- R20. -/
  regs : Regs
  /-- R25. -/
  pc : Word
  /-- R27. -/
  sp : Word
  /-- R30. -/
  ime : Bool
  /-- R31. -/
  ie : Byte
  /-- IF, R32. -/
  iflag : Byte
  /-- R39. -/
  halt : Bool
  /-- R40, a natural number. -/
  idle : Nat
  /-- R41. -/
  lastWrite : Word
  /-- R42. -/
  scratch : AluResult
  /-- R43. -/
  counter : Word
  /-- R44. -/
  tapPrev : Bool
  /-- The cell map of R45, as the list of stretches the bus operations have set, newest first: an address has the target of the
  first stretch that holds it, and is unmapped if none does. -/
  cells : List Segment
  /-- R46, by number. -/
  components : List Component
  /-- R47, in the order of creation. -/
  blocks : List Block
  /-- The contents of all blocks, one after the other: (index, byte) pairs in canonical form (`Memory.wf`). An unlisted byte is
  0x00, what a created block holds (R47, R66). -/
  mem : List Host.Cell
  /-- The OPEN parameters of R11; the model's own field, changed by no step. -/
  params : Params
  /-- The environment's moves, one list for each coming machine cycle (R9); the model's own field. Log entry 5. -/
  env : List (List EnvMove)
  /-- The boot-ROM-disable listener of R84, `none` once it has acted. -/
  bootListener : Option BootListener
  deriving DecidableEq, Repr

/-- Why a mapping operation failed (R343). -/
inductive AddressReason where
  /-- R68: a cell of the range is already mapped. -/
  | overlap
  /-- R69: start above end, or the range exceeds the component's backing size. -/
  | range
  deriving DecidableEq, Repr

/-- Why an argument is invalid (R344). -/
inductive ParameterReason where
  /-- R67: the shared source has no memory. -/
  | noMemory
  /-- A component number that names no component, which typing would exclude (R344). -/
  | noComponent
  deriving DecidableEq, Repr

/-- The faults of R340. A fault ends the run: the step has no next state. -/
inductive Fault where
  /-- Raised by the dispatch of one of the eleven undefined opcodes (R341); the spec's own fault: safe. -/
  | unknownInstruction (opcode : Byte) (pc : Word)
  /-- Raised by a bus write to an unmapped address, of an instruction, a push, the timer or the environment (R342); safe. -/
  | unmappedWrite (address : Word)
  /-- Raised by a failing mapping operation of the environment (R343), which changes nothing; the machine cycle goes on after it
  (log entry 8). Never raised by an instruction; safe. -/
  | addressError (reason : AddressReason)
  /-- Raised by a move of the environment with an invalid argument (R344). Never raised by an instruction; safe. -/
  | badParameter (reason : ParameterReason)
  deriving DecidableEq, Repr

/-- The model's refusals. -/
inductive Refusal where
  /-- Raised by an arm of `exec` whose instruction has no meaning yet; no arm is left so. Safe. -/
  | notModelled (mnemonic : String)
  deriving DecidableEq, Repr

/-- The outcome of one operation of this machine. -/
abbrev Result := Host.Outcome State Fault Refusal

/-- The block of a component, at its place in the store: the sizes of R80 in the order of assembly of R363. -/
def platformBlocks : List Block :=
  [ ⟨0, 8192⟩, ⟨8192, 8192⟩, ⟨16384, 8192⟩, ⟨24576, 160⟩, ⟨24736, 128⟩, ⟨24864, 127⟩, ⟨24991, 32768⟩, ⟨57759, 256⟩ ]

/-- The components of R80: video RAM, external RAM, working RAM, OAM, I/O, high RAM, echo RAM (sharing working RAM's block, R83),
cartridge, boot ROM. -/
def platformComponents : List Component :=
  [ ⟨some (0x8000, 0x9FFF), some 0⟩, ⟨some (0xA000, 0xBFFF), some 8192⟩, ⟨some (0xC000, 0xDFFF), some 16384⟩,
    ⟨some (0xFE00, 0xFE9F), some 24576⟩, ⟨some (0xFF00, 0xFF7F), some 24736⟩, ⟨some (0xFF80, 0xFFFE), some 24864⟩,
    ⟨some (0xE000, 0xFDFF), some 16384⟩, ⟨some (0x0000, 0x7FFF), some 24991⟩, ⟨some (0x0000, 0x00FF), some 57759⟩ ]

/-- The address map of R80 with the CPU attached (R363, R364), newest stretch first. 0xFEA0 to 0xFEFF is unmapped (R85). -/
def platformCells : List Segment :=
  [ ⟨0xFFFF, 0xFFFF, .ieReg⟩, ⟨0xFF0F, 0xFF0F, .ifReg⟩, ⟨0x0000, 0x00FF, .mem 57759 0⟩, ⟨0x0000, 0x7FFF, .mem 24991 0⟩,
    ⟨0xE000, 0xFDFF, .mem 16384 0⟩, ⟨0xFF80, 0xFFFE, .mem 24864 0⟩, ⟨0xFF00, 0xFF7F, .mem 24736 0⟩,
    ⟨0xFE00, 0xFE9F, .mem 24576 0⟩, ⟨0xC000, 0xDFFF, .mem 16384 0⟩, ⟨0xA000, 0xBFFF, .mem 8192 0⟩,
    ⟨0x8000, 0x9FFF, .mem 0 0⟩ ]

/-- Machine construction (R51, R362): every cell unmapped, no component, everything else zero. -/
def State.construction : State where
  regs := { a := 0, f := { z := false, n := false, h := false, c := false }, b := 0, c := 0, d := 0, e := 0, h := 0, l := 0 }
  pc := 0
  sp := 0
  ime := false
  ie := 0
  iflag := 0
  halt := false
  idle := 0
  lastWrite := 0
  scratch := .empty
  counter := 0
  tapPrev := false
  cells := []
  components := []
  blocks := []
  mem := []
  params := .default
  env := []
  bootListener := none

/-- The machine right after reset: "the end of machine assembly" (R360), that is the register values of R361 with the map of R363,
every memory byte 0x00 and the boot-ROM-disable listener waiting. The ROM images are inputs (log entry 7). -/
def State.reset : State :=
  { State.construction with
    cells := platformCells
    components := platformComponents
    blocks := platformBlocks
    bootListener := some ⟨8, 7⟩ }

end Sys2Proof.Machine
end

