-- ==== Sys2Proof/Machine/Memory.lean ====
section
/-! DEFINITION. The byte store behind the bus: a list of (index, byte) pairs in canonical form. An unlisted byte is 0x00 (spec 10_state.md R47). -/

namespace Sys2Proof.Machine

/-- R47, R66: what a byte nothing has written reads as, since a created block is zero-filled. -/
def Memory.blank : Byte := 0x00

/-- The canonical form: indices strictly rising, and no entry equal to what an unlisted byte reads as. -/
def Memory.wf : List Host.Cell → Bool
  | [] => true
  | c :: m => c.2 != Memory.blank && m.all (fun c' => decide (c.1 < c'.1)) && Memory.wf m

/-- The byte at an index. -/
def Memory.read : List Host.Cell → Nat → Byte
  | [], _ => Memory.blank
  | c :: m, k => if c.1 = k then c.2 else Memory.read m k

/-- A byte put at an index, keeping the canonical form. -/
def Memory.write : List Host.Cell → Nat → Byte → List Host.Cell
  | [], k, v => if v = Memory.blank then [] else [(k, v)]
  | c :: m, k, v =>
    if k < c.1 then (if v = Memory.blank then c :: m else (k, v) :: c :: m)
    else if k = c.1 then (if v = Memory.blank then m else (k, v) :: m)
    else c :: Memory.write m k v

/-- Bytes put at consecutive indices. -/
def Memory.writeAll (m : List Host.Cell) (k : Nat) : List Byte → List Host.Cell
  | [] => m
  | v :: vs => Memory.writeAll (Memory.write m k v) (k + 1) vs

end Sys2Proof.Machine
end

