-- ==== Sys2Proof/Machine/Bus.lean ====
section
/-! DEFINITION. The bus (spec 20_memory.md): the cell map, raw and CPU accesses, and the component contract. -/

namespace Sys2Proof.Machine

/-- Go on with a next state; a fault or refusal ends the step (R340). -/
def onNext (r : Result) (f : State → Result) : Result :=
  match r with
  | .next s => f s
  | .fault e => .fault e
  | .refused e => .refused e

/-- Go on with a function that cannot fail. -/
def mapNext (r : Result) (f : State → State) : Result := onNext r fun s => .next (f s)

/-- Whether a stretch holds an address. -/
def Segment.holds (g : Segment) (a : Word) : Bool := decide (g.first.toNat ≤ a.toNat ∧ a.toNat ≤ g.last.toNat)

/-- What an address of a stretch refers to. -/
def Segment.placeOf (g : Segment) (a : Word) : Place :=
  match g.target with
  | .unmapped => .unmapped
  | .ieReg => .ieReg
  | .ifReg => .ifReg
  | .mem block offset => .mem (block + (offset + (a.toNat - g.first.toNat)))

/-- The cell map as the total function of R45. -/
def placeIn : List Segment → Word → Place
  | [], _ => .unmapped
  | g :: gs, a => if g.holds a then g.placeOf a else placeIn gs a

/-- What the cell of an address refers to (R45). -/
def State.place (s : State) (a : Word) : Place := placeIn s.cells a

/-- R74 `BusRead`: never fails; an unmapped address reads 0xFF. -/
def busRead (s : State) (a : Word) : Byte :=
  match s.place a with
  | .unmapped => 0xFF
  | .ieReg => s.ie
  | .ifReg => s.iflag
  | .mem k => Memory.read s.mem k

/-- The state after a byte is stored in the cell of an address. -/
def poke (s : State) (a : Word) (v : Byte) : State :=
  match s.place a with
  | .unmapped => s
  | .ieReg => { s with ie := v }
  | .ifReg => { s with iflag := v }
  | .mem k => { s with mem := Memory.write s.mem k v }

/-- R75 `BusWrite`: a write to an unmapped address faults. -/
def busWrite (s : State) (a : Word) (v : Byte) : Result :=
  if s.place a = .unmapped then .fault (.unmappedWrite a) else .next (poke s a v)

/-- R76 `MemRead(a, 1)`. -/
def memRead8 (s : State) (a : Word) : Byte := busRead s a

/-- R77 `MemRead(a, 2)`: little-endian, the second address wrapping (R62). -/
def memRead16 (s : State) (a : Word) : Word := merge8 (busRead s a) (busRead s (a + 1))

/-- R41: `last_write <- a`. -/
def State.setLastWrite (s : State) (a : Word) : State := { s with lastWrite := a }

/-- R78 `MemWrite(a, 1, v)`. -/
def memWrite8 (s : State) (a : Word) (v : Byte) : Result :=
  mapNext (busWrite s a v) fun t => t.setLastWrite a

/-- R79 `MemWrite(a, 2, v)`: low byte first, `last_write` the address of the low byte (decisions D10 and D11). -/
def memWrite16 (s : State) (a : Word) (v : Word) : Result :=
  onNext (busWrite s a (lo8 v)) fun t =>
    mapNext (busWrite t (a + 1) (hi8 v)) fun u => u.setLastWrite a

/-- The size of the store, where the next block goes. -/
def storeSize (bs : List Block) : Nat := (bs.map Block.size).sum

/-- The size of a block, 0 if there is none of that id. -/
def blockSize : List Block → Nat → Nat
  | [], _ => 0
  | b :: bs, id => if b.id = id then b.size else blockSize bs id

/-- The backing size of a component, 0 if it has no memory (R69). -/
def Component.size (c : Component) (bs : List Block) : Nat :=
  match c.block with
  | none => 0
  | some id => blockSize bs id

/-- R66 `ComponentCreate`: size 0 gives a component without memory, any other size a new zeroed block. -/
def componentCreate (size : Nat) (s : State) : State :=
  if size = 0 then { s with components := s.components ++ [⟨none, none⟩] }
  else
    { s with
      components := s.components ++ [⟨none, some (storeSize s.blocks)⟩]
      blocks := s.blocks ++ [⟨storeSize s.blocks, size⟩] }

/-- Do something with the component of a number; a number that names none is a bad parameter (R344). -/
def withComponent (s : State) (n : Nat) (f : Component → Result) : Result :=
  match s.components[n]? with
  | none => .fault (.badParameter .noComponent)
  | some c => f c

/-- R67 `ComponentShared`. -/
def componentShared (dst src : Nat) (s : State) : Result :=
  withComponent s dst fun d =>
    withComponent s src fun c =>
      match c.block with
      | none => .fault (.badParameter .noMemory)
      | some id => .next { s with components := s.components.set dst { d with block := some id } }

/-- R69 `BusForcedPlug`. -/
def busForcedPlug (n : Nat) (first last : Word) (offset : Nat) (s : State) : Result :=
  withComponent s n fun c =>
    match c.block with
    | none => .fault (.addressError .range)
    | some id =>
      if first.toNat > last.toNat ∨ offset + (last.toNat - first.toNat + 1) > blockSize s.blocks id then
        .fault (.addressError .range)
      else
        .next
          { s with
            components := s.components.set n { c with range := some (first, last) }
            cells := ⟨first, last, .mem id offset⟩ :: s.cells }

/-- Whether any address from `lo` to `hi` is mapped, found stretch by stretch. -/
def rangeMapped : List Segment → Nat → Nat → Bool
  | [], _, _ => false
  | g :: gs, lo, hi =>
    if hi < lo then false
    else if g.last.toNat < g.first.toNat ∨ hi < g.first.toNat ∨ g.last.toNat < lo then rangeMapped gs lo hi
    else if g.target ≠ .unmapped then true
    else
      (decide (lo < g.first.toNat) && rangeMapped gs lo (g.first.toNat - 1)) ||
        (decide (g.last.toNat < hi) && rangeMapped gs (g.last.toNat + 1) hi)

/-- R68 `BusPlug`. -/
def busPlug (n : Nat) (first last : Word) (s : State) : Result :=
  if rangeMapped s.cells first.toNat last.toNat then .fault (.addressError .overlap)
  else busForcedPlug n first last 0 s

/-- R70 `BusUnplug`: never fails for a component that exists; its block keeps its contents. -/
def busUnplug (n : Nat) (s : State) : Result :=
  withComponent s n fun c =>
    match c.range with
    | none => .next s
    | some (first, last) =>
      .next
        { s with
          components := s.components.set n { c with range := none }
          cells := ⟨first, last, .unmapped⟩ :: s.cells }

/-- R364: attaching the CPU binds cell 0xFF0F to IF and cell 0xFFFF to IE, whatever was plugged there. -/
def attachCpu (s : State) : State :=
  { s with
    cells := ⟨Config.ieAddr, Config.ieAddr, .ieReg⟩ :: ⟨Config.ifAddr, Config.ifAddr, .ifReg⟩ :: s.cells }

/-- R362: an image loaded into a component's block, as much of it as the block holds. -/
def loadImage (n : Nat) (image : List Byte) (s : State) : Result :=
  withComponent s n fun c =>
    match c.block with
    | none => .fault (.badParameter .noMemory)
    | some id => .next { s with mem := Memory.writeAll s.mem id (image.take (blockSize s.blocks id)) }

end Sys2Proof.Machine
end

