-- ==== Sys2Proof/Machine/Flags.lean ====
section
/-! DEFINITION. The flag byte, flag composition, and the ALU (spec 40_bitops_alu.md section 3): every flag computation of the machine. -/

namespace Sys2Proof.Machine

/-- The byte of F: Z, N, H, C in bits 7 to 4, zeros below (R23). -/
def Flags.toByte (f : Flags) : Byte :=
  (BitVec.ofBool f.z ++ BitVec.ofBool f.n) ++ (BitVec.ofBool f.h ++ BitVec.ofBool f.c) ++ 0#4

/-- A byte written to F keeps its high nibble only (R22). -/
def Flags.ofByte (v : Byte) : Flags :=
  { z := v.getLsbD 7, n := v.getLsbD 6, h := v.getLsbD 5, c := v.getLsbD 4 }

/-- The four sources of flag composition: "force-clear, force-set, take-from-ALU-result, take-from-current-flags" (R112). -/
inductive FlagSource where
  | clear | set | alu | cpu
  deriving DecidableEq, Repr

/-- One flag from its source, given the ALU's and the current value (R112). -/
def FlagSource.pick (src : FlagSource) (alu cpu : Bool) : Bool :=
  match src with
  | .clear => false
  | .set => true
  | .alu => alu
  | .cpu => cpu

/-- R112 `CombineFlags`: each flag from its source, the ALU result being `scratch`. -/
def combineFlags (zs ns hs cs : FlagSource) (s : State) : State :=
  let old := s.regs.f
  let alu := s.scratch.flags
  { s with
    regs.f := { z := zs.pick alu.z old.z, n := ns.pick alu.n old.n, h := hs.pick alu.h old.h, c := cs.pick alu.c old.c } }

/-- A carry or borrow bit as a number. -/
def bitNat (c : Bool) : Nat := if c then 1 else 0

/-- An ALU result with an 8-bit value (R140: upper byte 0). -/
def byteResult (v : Byte) (flags : Flags) : AluResult := { value := zext16 v, flags := flags }

/-- R141 `add8`. H and C are the carries out of bit 3 and bit 7. -/
def add8 (x y : Byte) (carryIn : Bool) : AluResult :=
  let v := BitVec.ofNat 8 (x.toNat + y.toNat + bitNat carryIn)
  byteResult v
    { z := v == 0
      n := false
      h := decide (x.toNat % 16 + y.toNat % 16 + bitNat carryIn > 15)
      c := decide (x.toNat + y.toNat + bitNat carryIn > 255) }

/-- R142 `sub8`. H and C are the borrows into bit 4 and out of bit 7; `SUB8_HNC` is constant false (decision D9, log entry 9). -/
def sub8 (x y : Byte) (borrowIn : Bool) : AluResult :=
  let v := BitVec.ofInt 8 (x.toNat - y.toNat - bitNat borrowIn)
  byteResult v
    { z := v == 0
      n := true
      h := decide (x.toNat % 16 < y.toNat % 16 + bitNat borrowIn)
      c := decide (x.toNat < y.toNat + bitNat borrowIn) }

/-- R143 `add16_low`: H and C of the low-byte addition. -/
def add16Low (x y : Word) : AluResult :=
  let low := add8 (lo8 x) (lo8 y) false
  let high := BitVec.ofNat 8 ((hi8 x).toNat + (hi8 y).toNat + bitNat low.flags.c)
  let v := merge8 (lo8 low.value) high
  { value := v, flags := { z := v == 0, n := false, h := low.flags.h, c := low.flags.c } }

/-- R144 `add16_high`: H and C of the high-byte addition, whose carry-in is bit 8 of the low sum. -/
def add16High (x y : Word) : AluResult :=
  let lowSum := (lo8 x).toNat + (lo8 y).toNat
  let high := add8 (hi8 x) (hi8 y) (decide (lowSum > 255))
  let v := merge8 (BitVec.ofNat 8 lowSum) (lo8 high.value)
  { value := v, flags := { z := v == 0, n := false, h := high.flags.h, c := high.flags.c } }

/-- The result of a shift or rotate: Z from the value, C the bit that left, N and H clear (R145 to R148). -/
def shiftResult (v : Byte) (out : Bool) : AluResult :=
  byteResult v { z := v == 0, n := false, h := false, c := out }

/-- R145 `shift`. -/
def shift (x : Byte) : Direction → AluResult
  | .left => shiftResult (x <<< 1) (x.getLsbD 7)
  | .right => shiftResult (x >>> 1) (x.getLsbD 0)

/-- R146 `shiftR_A`. -/
def shiftRA (x : Byte) : AluResult := shiftResult ((x >>> 1) ||| (x &&& 0x80)) (x.getLsbD 0)

/-- A bit at position `n` of an otherwise zero byte. -/
def bitAt (n : Nat) (b : Bool) : Byte := if b then 1#8 <<< n else 0

/-- R147 `rotate`. -/
def rotate (x : Byte) : Direction → AluResult
  | .left => shiftResult ((x <<< 1) ||| bitAt 0 (x.getLsbD 7)) (x.getLsbD 7)
  | .right => shiftResult ((x >>> 1) ||| bitAt 7 (x.getLsbD 0)) (x.getLsbD 0)

/-- R148 `carry_rotate`: the current C is the bit fed back in. -/
def carryRotate (x : Byte) (dir : Direction) (flags : Flags) : AluResult :=
  match dir with
  | .left => shiftResult ((x <<< 1) ||| bitAt 0 flags.c) (x.getLsbD 7)
  | .right => shiftResult ((x >>> 1) ||| bitAt 7 flags.c) (x.getLsbD 0)

/-- R153: a result no ALU function computes, with Z from the value and the other flags clear. -/
def plainResult (v : Byte) : AluResult := byteResult v { z := v == 0, n := false, h := false, c := false }

/-- R153, R182, R183: what SCF and CCF leave in `scratch`: value 0, Z set since the value is 0, and the new carry. Log entry 24. -/
def carryResult (c : Bool) : AluResult := byteResult 0 { z := true, n := false, h := false, c := c }

/-- R180, the adjustment of DAA: the correction byte and the carry it leaves, from A and N, H, C. -/
def daaAdjust (a : Byte) (f : Flags) : Byte × Bool :=
  if f.n then
    ((if f.h then 0x06 else 0) ||| (if f.c then 0x60 else 0), f.c)
  else
    ((if f.h || decide (a.toNat % 16 > 9) then 0x06 else 0) ||| (if f.c || decide (a.toNat > 0x99) then 0x60 else 0),
      f.c || decide (a.toNat > 0x99))

/-- R180, the result of DAA in `scratch`. -/
def daaResult (a : Byte) (f : Flags) : AluResult :=
  let adj := daaAdjust a f
  let v := if f.n then a - adj.1 else a + adj.1
  byteResult v { z := v == 0, n := false, h := false, c := adj.2 }

end Sys2Proof.Machine
end

