-- ==== Sys2Proof/Machine/Ops.lean ====
section
/-! DEFINITION. The named operations over registers, stack, program counter and interrupts. -/

namespace Sys2Proof.Machine

/-- A byte register read (R13). -/
def State.reg (s : State) : Reg8 → Byte
  | .b => s.regs.b
  | .c => s.regs.c
  | .d => s.regs.d
  | .e => s.regs.e
  | .h => s.regs.h
  | .l => s.regs.l
  | .a => s.regs.a

/-- A byte register written (R13). -/
def State.setReg (s : State) (r : Reg8) (v : Byte) : State :=
  match r with
  | .b => { s with regs.b := v }
  | .c => { s with regs.c := v }
  | .d => { s with regs.d := v }
  | .e => { s with regs.e := v }
  | .h => { s with regs.h := v }
  | .l => { s with regs.l := v }
  | .a => { s with regs.a := v }

/-- `x[BC]` (R21). -/
def State.bc (s : State) : Word := merge8 s.regs.c s.regs.b
/-- `x[DE]` (R21). -/
def State.de (s : State) : Word := merge8 s.regs.e s.regs.d
/-- `x[HL]` (R21). -/
def State.hl (s : State) : Word := merge8 s.regs.l s.regs.h
/-- `x[AF]` (R21). -/
def State.af (s : State) : Word := merge8 s.regs.f.toByte s.regs.a

/-- `x[BC] <- v` (R21). -/
def State.setBC (s : State) (v : Word) : State := { s with regs.b := hi8 v, regs.c := lo8 v }
/-- `x[DE] <- v` (R21). -/
def State.setDE (s : State) (v : Word) : State := { s with regs.d := hi8 v, regs.e := lo8 v }
/-- `x[HL] <- v` (R21). -/
def State.setHL (s : State) (v : Word) : State := { s with regs.h := hi8 v, regs.l := lo8 v }
/-- `x[AF] <- v`: the low nibble of F is cleared whatever the value (R22). -/
def State.setAF (s : State) (v : Word) : State := { s with regs.a := hi8 v, regs.f := Flags.ofByte (lo8 v) }

/-- The operand `rr` of R104, read. -/
def State.pair (s : State) : Reg16 → Word
  | .bc => s.bc
  | .de => s.de
  | .hl => s.hl
  | .sp => s.sp

/-- The operand `rr` of R104, written. -/
def State.setPair (s : State) (p : Reg16) (v : Word) : State :=
  match p with
  | .bc => s.setBC v
  | .de => s.setDE v
  | .hl => s.setHL v
  | .sp => { s with sp := v }

/-- The operand `rs` of R104, read. -/
def State.stackPair (s : State) : StackPair → Word
  | .bc => s.bc
  | .de => s.de
  | .hl => s.hl
  | .af => s.af

/-- The operand `rs` of R104, written. -/
def State.setStackPair (s : State) (p : StackPair) (v : Word) : State :=
  match p with
  | .bc => s.setBC v
  | .de => s.setDE v
  | .hl => s.setHL v
  | .af => s.setAF v

/-- An ALU result put in `scratch` (R42). -/
def State.setScratch (s : State) (r : AluResult) : State := { s with scratch := r }

/-- R316, the end of an instruction that transfers no control: `pc` past its bytes, its cost in `idle`. -/
def retire (len : Word) (cycles : Nat) (s : State) : State := { s with pc := s.pc + len, idle := s.idle + (cycles - 1) }

/-- R285 and R316, the end of a taken transfer: `pc` at the target, its cost in `idle`. -/
def jumpTo (target : Word) (cycles : Nat) (s : State) : State := { s with pc := target, idle := s.idle + (cycles - 1) }

/-- The stack pointer a push writes at: decremented by 2, unless it is below 2 (`PUSH_LOW_SP` = `skip_decrement`, R241, decision D16,
log entry 6). -/
def pushSp (sp : Word) : Word := if sp.toNat < 2 then sp else sp - 2

/-- R241 `Push(v)`. -/
def push (v : Word) (s : State) : Result := memWrite16 { s with sp := pushSp s.sp } (pushSp s.sp) v

/-- R242 `Pop()`, the value. -/
def popValue (s : State) : Word := memRead16 s s.sp

/-- R242 `Pop()`, the new stack pointer. -/
def dropWord (s : State) : State := { s with sp := s.sp + 2 }

/-- The bit of a line in IE and IF (R31, R315). -/
def Line.bit : Line → Nat
  | .vblank => 0
  | .lcdStat => 1
  | .timer => 2
  | .serial => 3
  | .joypad => 4

/-- R315: `0x0040 + 8 * i`. -/
def Line.vector (i : Line) : Word := BitVec.ofNat 16 (0x40 + 8 * Line.bit i)

/-- R312: `IE & IF & 0x1F`. -/
def pendingSet (iflag ie : Byte) : Byte := ie &&& iflag &&& 0x1F

/-- R312 `IfIeCompare`: the lowest-index bit set in `IE & IF`, bit 0 the highest priority. -/
def ifIeCompare (iflag ie : Byte) : Option Line :=
  let p := pendingSet iflag ie
  if p.getLsbD 0 then some .vblank
  else if p.getLsbD 1 then some .lcdStat
  else if p.getLsbD 2 then some .timer
  else if p.getLsbD 3 then some .serial
  else if p.getLsbD 4 then some .joypad
  else none

/-- The line a dispatch would take now (R312). -/
def State.pending (s : State) : Option Line := ifIeCompare s.iflag s.ie

/-- R322 `RequestInterrupt(line)`. -/
def requestInterrupt (i : Line) (s : State) : State := { s with iflag := bitSet s.iflag (Line.bit i) }

/-- R314, taking an interrupt: IME and the line's IF bit cleared, `pc` pushed, `pc` at the vector, the service cost in `idle`. -/
def takeInterrupt (i : Line) (s : State) : Result :=
  let t := { s with ime := false, iflag := bitUnset s.iflag (Line.bit i) }
  mapNext (push t.pc t) fun u => { u with pc := Line.vector i, idle := u.idle + u.params.intServiceCycles }

/-- R288: the return address popped into `pc`. -/
def returnFromCall (cycles : Nat) (s : State) : State := jumpTo (popValue s) cycles (dropWord s)

/-- R292, the return from an interrupt: the return address popped, IME set. -/
def returnFromInterrupt (cycles : Nat) (s : State) : State := { returnFromCall cycles s with ime := true }

end Sys2Proof.Machine
end

