-- ==== Sys2Proof/Machine/Operands.lean ====
section
/-! DEFINITION. The operand primitives of spec 30_encoding.md section 3. The immediates `imm8` and `imm16` are operands
of `Instr`, read with the opcode; only CALL reads its `imm16` later, after its push (R286). -/

namespace Sys2Proof.Machine

/-- R106 `Rd8(r)`. -/
def rd8 (o : Operand8) (s : State) : Byte :=
  match o with
  | .reg r => s.reg r
  | .atHL => memRead8 s s.hl

/-- R107 `Wr8(r, v)`. -/
def wr8 (o : Operand8) (v : Byte) (s : State) : Result :=
  match o with
  | .reg r => .next (s.setReg r v)
  | .atHL => memWrite8 s s.hl v

/-- R109 `imm16`, as the bytes at `pc + 1` and `pc + 2` are now. -/
def imm16 (s : State) : Word := memRead16 s (s.pc + 1)

/-- R110: the address `0xFF00 + a8`. -/
def windowAddr (a8 : Byte) : Word := Config.windowBase + zext16 a8

/-- R111 `CC(c)`. -/
def condHolds (cc : Cond) (f : Flags) : Bool :=
  match cc with
  | .nz => !f.z
  | .z => f.z
  | .nc => !f.c
  | .c => f.c

/-- The address a pointer operand gives (R104). -/
def pointerAddr (p : Pointer) (s : State) : Word :=
  match p with
  | .bc => s.bc
  | .de => s.de
  | .hlInc => s.hl
  | .hlDec => s.hl

/-- The pointer after the access: HL moved by one for (HL+) and (HL-), wrapping (R251 to R254). -/
def movePointer (p : Pointer) (s : State) : State :=
  match p with
  | .bc => s
  | .de => s
  | .hlInc => s.setHL (s.hl + 1)
  | .hlDec => s.setHL (s.hl - 1)

/-- A cost by operand form: one number for a register, one for the byte at HL (R118). -/
def formCycles (o : Operand8) (register memory : Nat) : Nat :=
  match o with
  | .reg _ => register
  | .atHL => memory

end Sys2Proof.Machine
end

