-- ==== Sys2Proof/Machine/Alu16.lean ====
section
/-! DEFINITION. The 16-bit arithmetic instructions (spec 42_alu16_instructions.md). -/

namespace Sys2Proof.Machine

/-- R200: ADD HL,rr. -/
def addHLPair (p : Reg16) (s : State) : Result :=
  let r := add16High s.hl (s.pair p)
  .next (retire 1 2 (combineFlags .cpu .clear .alu .alu ((s.setScratch r).setHL r.value)))

/-- R201: INC rr; the ALU's flags are discarded by composition. -/
def incPair (p : Reg16) (s : State) : Result :=
  let r := add16High (s.pair p) 0x0001
  .next (retire 1 2 (combineFlags .cpu .cpu .cpu .cpu ((s.setScratch r).setPair p r.value)))

/-- R202: DEC rr. -/
def decPair (p : Reg16) (s : State) : Result :=
  .next (retire 1 2 (combineFlags .cpu .cpu .cpu .cpu (s.setPair p (s.pair p - 1))))

/-- R203: ADD SP,e8. -/
def addSPOffset (e8 : Byte) (s : State) : Result :=
  let r := add16Low s.sp (sext16 e8)
  .next (retire 2 4 (combineFlags .clear .clear .alu .alu ((s.setScratch r).setPair .sp r.value)))

/-- R204: LD HL,SP+e8. -/
def loadHLSPOffset (e8 : Byte) (s : State) : Result :=
  let r := add16Low s.sp (sext16 e8)
  .next (retire 2 3 (combineFlags .clear .clear .alu .alu ((s.setScratch r).setHL r.value)))

/-- R201 INC BC. -/
def execIncBC (s : State) : Result := incPair .bc s
/-- R200 ADD HL,BC. -/
def execAddHLBC (s : State) : Result := addHLPair .bc s
/-- R202 DEC BC. -/
def execDecBC (s : State) : Result := decPair .bc s
/-- R201 INC DE. -/
def execIncDE (s : State) : Result := incPair .de s
/-- R200 ADD HL,DE. -/
def execAddHLDE (s : State) : Result := addHLPair .de s
/-- R202 DEC DE. -/
def execDecDE (s : State) : Result := decPair .de s
/-- R201 INC HL. -/
def execIncHL (s : State) : Result := incPair .hl s
/-- R200 ADD HL,HL. -/
def execAddHLHL (s : State) : Result := addHLPair .hl s
/-- R202 DEC HL. -/
def execDecHL (s : State) : Result := decPair .hl s
/-- R201 INC SP. -/
def execIncSP (s : State) : Result := incPair .sp s
/-- R200 ADD HL,SP. -/
def execAddHLSP (s : State) : Result := addHLPair .sp s
/-- R202 DEC SP. -/
def execDecSP (s : State) : Result := decPair .sp s
/-- R203 ADD SP,e8. -/
def execAddSPE8 (e8 : Byte) (s : State) : Result := addSPOffset e8 s
/-- R204 LD HL,SP+e8. -/
def execLdHLSPE8 (e8 : Byte) (s : State) : Result := loadHLSPOffset e8 s

end Sys2Proof.Machine
end

