-- ==== Sys2Proof/Machine/Alu8.lean ====
section
/-! DEFINITION. The 8-bit arithmetic and logic instructions (spec 41_alu8_instructions.md). -/

namespace Sys2Proof.Machine

/-! The eight two-operand operations. The source operand is read from the state the instruction starts in (R184). -/

/-- R170: ADD A,s. -/
def addA (src : State → Byte) (len : Word) (cycles : Nat) (s : State) : Result :=
  let r := add8 s.regs.a (src s) false
  .next (retire len cycles (combineFlags .alu .clear .alu .alu ((s.setScratch r).setReg .a (lo8 r.value))))

/-- R171: ADC A,s. -/
def adcA (src : State → Byte) (len : Word) (cycles : Nat) (s : State) : Result :=
  let r := add8 s.regs.a (src s) s.regs.f.c
  .next (retire len cycles (combineFlags .alu .clear .alu .alu ((s.setScratch r).setReg .a (lo8 r.value))))

/-- R172: SUB s. -/
def subA (src : State → Byte) (len : Word) (cycles : Nat) (s : State) : Result :=
  let r := sub8 s.regs.a (src s) false
  .next (retire len cycles (combineFlags .alu .set .alu .alu ((s.setScratch r).setReg .a (lo8 r.value))))

/-- R173: SBC A,s. -/
def sbcA (src : State → Byte) (len : Word) (cycles : Nat) (s : State) : Result :=
  let r := sub8 s.regs.a (src s) s.regs.f.c
  .next (retire len cycles (combineFlags .alu .set .alu .alu ((s.setScratch r).setReg .a (lo8 r.value))))

/-- R174: AND s. -/
def andA (src : State → Byte) (len : Word) (cycles : Nat) (s : State) : Result :=
  let v := s.regs.a &&& src s
  .next (retire len cycles (combineFlags .alu .clear .set .clear ((s.setScratch (plainResult v)).setReg .a v)))

/-- R175: XOR s. -/
def xorA (src : State → Byte) (len : Word) (cycles : Nat) (s : State) : Result :=
  let v := s.regs.a ^^^ src s
  .next (retire len cycles (combineFlags .alu .clear .clear .clear ((s.setScratch (plainResult v)).setReg .a v)))

/-- R176: OR s. -/
def orA (src : State → Byte) (len : Word) (cycles : Nat) (s : State) : Result :=
  let v := s.regs.a ||| src s
  .next (retire len cycles (combineFlags .alu .clear .clear .clear ((s.setScratch (plainResult v)).setReg .a v)))

/-- R177: CP s; A is not written. -/
def cpA (src : State → Byte) (len : Word) (cycles : Nat) (s : State) : Result :=
  .next (retire len cycles (combineFlags .alu .set .alu .alu (s.setScratch (sub8 s.regs.a (src s) false))))

/-- R178: INC r. -/
def inc8 (o : Operand8) (cycles : Nat) (s : State) : Result :=
  let r := add8 (rd8 o s) 1 false
  mapNext (wr8 o (lo8 r.value) (s.setScratch r)) fun t => retire 1 cycles (combineFlags .alu .clear .alu .cpu t)

/-- R179: DEC r. -/
def dec8 (o : Operand8) (cycles : Nat) (s : State) : Result :=
  let r := sub8 (rd8 o s) 1 false
  mapNext (wr8 o (lo8 r.value) (s.setScratch r)) fun t => retire 1 cycles (combineFlags .alu .set .alu .cpu t)

/-- R180: DAA. -/
def daaOn (s : State) : Result :=
  let r := daaResult s.regs.a s.regs.f
  .next (retire 1 1 (combineFlags .alu .cpu .clear .alu ((s.setScratch r).setReg .a (lo8 r.value))))

/-- R181: CPL. -/
def cplOn (s : State) : Result :=
  let v := ~~~s.regs.a
  .next (retire 1 1 (combineFlags .cpu .set .set .cpu ((s.setScratch (plainResult v)).setReg .a v)))

/-- R182: SCF. -/
def scfOn (s : State) : Result :=
  .next (retire 1 1 (combineFlags .cpu .clear .clear .set (s.setScratch (carryResult true))))

/-- R183: CCF; the complement of C reaches F through `scratch`. -/
def ccfOn (s : State) : Result :=
  .next (retire 1 1 (combineFlags .cpu .clear .clear .alu (s.setScratch (carryResult (!s.regs.f.c)))))

/-- R178 INC B. -/
def execIncB (s : State) : Result := inc8 (.reg .b) 1 s
/-- R179 DEC B. -/
def execDecB (s : State) : Result := dec8 (.reg .b) 1 s
/-- R178 INC C. -/
def execIncC (s : State) : Result := inc8 (.reg .c) 1 s
/-- R179 DEC C. -/
def execDecC (s : State) : Result := dec8 (.reg .c) 1 s
/-- R178 INC D. -/
def execIncD (s : State) : Result := inc8 (.reg .d) 1 s
/-- R179 DEC D. -/
def execDecD (s : State) : Result := dec8 (.reg .d) 1 s
/-- R178 INC E. -/
def execIncE (s : State) : Result := inc8 (.reg .e) 1 s
/-- R179 DEC E. -/
def execDecE (s : State) : Result := dec8 (.reg .e) 1 s
/-- R178 INC H. -/
def execIncH (s : State) : Result := inc8 (.reg .h) 1 s
/-- R179 DEC H. -/
def execDecH (s : State) : Result := dec8 (.reg .h) 1 s
/-- R180 DAA. -/
def execDaa (s : State) : Result := daaOn s
/-- R178 INC L. -/
def execIncL (s : State) : Result := inc8 (.reg .l) 1 s
/-- R179 DEC L. -/
def execDecL (s : State) : Result := dec8 (.reg .l) 1 s
/-- R181 CPL. -/
def execCpl (s : State) : Result := cplOn s
/-- R178 INC (HL). -/
def execIncAtHL (s : State) : Result := inc8 .atHL 3 s
/-- R179 DEC (HL). -/
def execDecAtHL (s : State) : Result := dec8 .atHL 3 s
/-- R182 SCF. -/
def execScf (s : State) : Result := scfOn s
/-- R178 INC A. -/
def execIncA (s : State) : Result := inc8 (.reg .a) 1 s
/-- R179 DEC A. -/
def execDecA (s : State) : Result := dec8 (.reg .a) 1 s
/-- R183 CCF. -/
def execCcf (s : State) : Result := ccfOn s
/-- R170 ADD A,B. -/
def execAddAB (s : State) : Result := addA (rd8 (.reg .b)) 1 1 s
/-- R170 ADD A,C. -/
def execAddAC (s : State) : Result := addA (rd8 (.reg .c)) 1 1 s
/-- R170 ADD A,D. -/
def execAddAD (s : State) : Result := addA (rd8 (.reg .d)) 1 1 s
/-- R170 ADD A,E. -/
def execAddAE (s : State) : Result := addA (rd8 (.reg .e)) 1 1 s
/-- R170 ADD A,H. -/
def execAddAH (s : State) : Result := addA (rd8 (.reg .h)) 1 1 s
/-- R170 ADD A,L. -/
def execAddAL (s : State) : Result := addA (rd8 (.reg .l)) 1 1 s
/-- R170 ADD A,(HL). -/
def execAddAAtHL (s : State) : Result := addA (rd8 .atHL) 1 2 s
/-- R170 ADD A,A. -/
def execAddAA (s : State) : Result := addA (rd8 (.reg .a)) 1 1 s
/-- R171 ADC A,B. -/
def execAdcAB (s : State) : Result := adcA (rd8 (.reg .b)) 1 1 s
/-- R171 ADC A,C. -/
def execAdcAC (s : State) : Result := adcA (rd8 (.reg .c)) 1 1 s
/-- R171 ADC A,D. -/
def execAdcAD (s : State) : Result := adcA (rd8 (.reg .d)) 1 1 s
/-- R171 ADC A,E. -/
def execAdcAE (s : State) : Result := adcA (rd8 (.reg .e)) 1 1 s
/-- R171 ADC A,H. -/
def execAdcAH (s : State) : Result := adcA (rd8 (.reg .h)) 1 1 s
/-- R171 ADC A,L. -/
def execAdcAL (s : State) : Result := adcA (rd8 (.reg .l)) 1 1 s
/-- R171 ADC A,(HL). -/
def execAdcAAtHL (s : State) : Result := adcA (rd8 .atHL) 1 2 s
/-- R171 ADC A,A. -/
def execAdcAA (s : State) : Result := adcA (rd8 (.reg .a)) 1 1 s
/-- R172 SUB B. -/
def execSubB (s : State) : Result := subA (rd8 (.reg .b)) 1 1 s
/-- R172 SUB C. -/
def execSubC (s : State) : Result := subA (rd8 (.reg .c)) 1 1 s
/-- R172 SUB D. -/
def execSubD (s : State) : Result := subA (rd8 (.reg .d)) 1 1 s
/-- R172 SUB E. -/
def execSubE (s : State) : Result := subA (rd8 (.reg .e)) 1 1 s
/-- R172 SUB H. -/
def execSubH (s : State) : Result := subA (rd8 (.reg .h)) 1 1 s
/-- R172 SUB L. -/
def execSubL (s : State) : Result := subA (rd8 (.reg .l)) 1 1 s
/-- R172 SUB (HL). -/
def execSubAtHL (s : State) : Result := subA (rd8 .atHL) 1 2 s
/-- R172 SUB A. -/
def execSubA (s : State) : Result := subA (rd8 (.reg .a)) 1 1 s
/-- R173 SBC A,B. -/
def execSbcAB (s : State) : Result := sbcA (rd8 (.reg .b)) 1 1 s
/-- R173 SBC A,C. -/
def execSbcAC (s : State) : Result := sbcA (rd8 (.reg .c)) 1 1 s
/-- R173 SBC A,D. -/
def execSbcAD (s : State) : Result := sbcA (rd8 (.reg .d)) 1 1 s
/-- R173 SBC A,E. -/
def execSbcAE (s : State) : Result := sbcA (rd8 (.reg .e)) 1 1 s
/-- R173 SBC A,H. -/
def execSbcAH (s : State) : Result := sbcA (rd8 (.reg .h)) 1 1 s
/-- R173 SBC A,L. -/
def execSbcAL (s : State) : Result := sbcA (rd8 (.reg .l)) 1 1 s
/-- R173 SBC A,(HL). -/
def execSbcAAtHL (s : State) : Result := sbcA (rd8 .atHL) 1 2 s
/-- R173 SBC A,A. -/
def execSbcAA (s : State) : Result := sbcA (rd8 (.reg .a)) 1 1 s
/-- R174 AND B. -/
def execAndB (s : State) : Result := andA (rd8 (.reg .b)) 1 1 s
/-- R174 AND C. -/
def execAndC (s : State) : Result := andA (rd8 (.reg .c)) 1 1 s
/-- R174 AND D. -/
def execAndD (s : State) : Result := andA (rd8 (.reg .d)) 1 1 s
/-- R174 AND E. -/
def execAndE (s : State) : Result := andA (rd8 (.reg .e)) 1 1 s
/-- R174 AND H. -/
def execAndH (s : State) : Result := andA (rd8 (.reg .h)) 1 1 s
/-- R174 AND L. -/
def execAndL (s : State) : Result := andA (rd8 (.reg .l)) 1 1 s
/-- R174 AND (HL). -/
def execAndAtHL (s : State) : Result := andA (rd8 .atHL) 1 2 s
/-- R174 AND A. -/
def execAndA (s : State) : Result := andA (rd8 (.reg .a)) 1 1 s
/-- R175 XOR B. -/
def execXorB (s : State) : Result := xorA (rd8 (.reg .b)) 1 1 s
/-- R175 XOR C. -/
def execXorC (s : State) : Result := xorA (rd8 (.reg .c)) 1 1 s
/-- R175 XOR D. -/
def execXorD (s : State) : Result := xorA (rd8 (.reg .d)) 1 1 s
/-- R175 XOR E. -/
def execXorE (s : State) : Result := xorA (rd8 (.reg .e)) 1 1 s
/-- R175 XOR H. -/
def execXorH (s : State) : Result := xorA (rd8 (.reg .h)) 1 1 s
/-- R175 XOR L. -/
def execXorL (s : State) : Result := xorA (rd8 (.reg .l)) 1 1 s
/-- R175 XOR (HL). -/
def execXorAtHL (s : State) : Result := xorA (rd8 .atHL) 1 2 s
/-- R175 XOR A. -/
def execXorA (s : State) : Result := xorA (rd8 (.reg .a)) 1 1 s
/-- R176 OR B. -/
def execOrB (s : State) : Result := orA (rd8 (.reg .b)) 1 1 s
/-- R176 OR C. -/
def execOrC (s : State) : Result := orA (rd8 (.reg .c)) 1 1 s
/-- R176 OR D. -/
def execOrD (s : State) : Result := orA (rd8 (.reg .d)) 1 1 s
/-- R176 OR E. -/
def execOrE (s : State) : Result := orA (rd8 (.reg .e)) 1 1 s
/-- R176 OR H. -/
def execOrH (s : State) : Result := orA (rd8 (.reg .h)) 1 1 s
/-- R176 OR L. -/
def execOrL (s : State) : Result := orA (rd8 (.reg .l)) 1 1 s
/-- R176 OR (HL). -/
def execOrAtHL (s : State) : Result := orA (rd8 .atHL) 1 2 s
/-- R176 OR A. -/
def execOrA (s : State) : Result := orA (rd8 (.reg .a)) 1 1 s
/-- R177 CP B. -/
def execCpB (s : State) : Result := cpA (rd8 (.reg .b)) 1 1 s
/-- R177 CP C. -/
def execCpC (s : State) : Result := cpA (rd8 (.reg .c)) 1 1 s
/-- R177 CP D. -/
def execCpD (s : State) : Result := cpA (rd8 (.reg .d)) 1 1 s
/-- R177 CP E. -/
def execCpE (s : State) : Result := cpA (rd8 (.reg .e)) 1 1 s
/-- R177 CP H. -/
def execCpH (s : State) : Result := cpA (rd8 (.reg .h)) 1 1 s
/-- R177 CP L. -/
def execCpL (s : State) : Result := cpA (rd8 (.reg .l)) 1 1 s
/-- R177 CP (HL). -/
def execCpAtHL (s : State) : Result := cpA (rd8 .atHL) 1 2 s
/-- R177 CP A. -/
def execCpA (s : State) : Result := cpA (rd8 (.reg .a)) 1 1 s
/-- R170 ADD A,n8. -/
def execAddAN8 (n8 : Byte) (s : State) : Result := addA (fun _ => n8) 2 2 s
/-- R171 ADC A,n8. -/
def execAdcAN8 (n8 : Byte) (s : State) : Result := adcA (fun _ => n8) 2 2 s
/-- R172 SUB n8. -/
def execSubN8 (n8 : Byte) (s : State) : Result := subA (fun _ => n8) 2 2 s
/-- R173 SBC A,n8. -/
def execSbcAN8 (n8 : Byte) (s : State) : Result := sbcA (fun _ => n8) 2 2 s
/-- R174 AND n8. -/
def execAndN8 (n8 : Byte) (s : State) : Result := andA (fun _ => n8) 2 2 s
/-- R175 XOR n8. -/
def execXorN8 (n8 : Byte) (s : State) : Result := xorA (fun _ => n8) 2 2 s
/-- R176 OR n8. -/
def execOrN8 (n8 : Byte) (s : State) : Result := orA (fun _ => n8) 2 2 s
/-- R177 CP n8. -/
def execCpN8 (n8 : Byte) (s : State) : Result := cpA (fun _ => n8) 2 2 s

end Sys2Proof.Machine
end

