-- ==== Sys2Proof/Machine/Bits.lean ====
section
/-! DEFINITION. The bit instructions BIT, RES and SET (spec 43_rotate_shift_bit.md R222 to R224). -/

namespace Sys2Proof.Machine

/-- R222: BIT b,r; the operand is not written. -/
def bitTest (b : Fin 8) (o : Operand8) (cycles : Nat) (s : State) : Result :=
  let v := rd8 o s
  let r := byteResult v { z := !bitGet v b.val, n := false, h := false, c := false }
  .next (retire 2 cycles (combineFlags .alu .clear .set .cpu (s.setScratch r)))

/-- RES and SET: the operand rewritten, no flag changed (R223, R224). -/
def rewriteBit (o : Operand8) (v : Byte) (cycles : Nat) (s : State) : Result :=
  mapNext (wr8 o v (s.setScratch (plainResult v))) fun t => retire 2 cycles (combineFlags .cpu .cpu .cpu .cpu t)

/-- R223: RES b,r. -/
def bitReset (b : Fin 8) (o : Operand8) (cycles : Nat) (s : State) : Result :=
  rewriteBit o (bitUnset (rd8 o s) b.val) cycles s

/-- R224: SET b,r. -/
def bitSetOn (b : Fin 8) (o : Operand8) (cycles : Nat) (s : State) : Result :=
  rewriteBit o (bitSet (rd8 o s) b.val) cycles s

/-- R222 BIT 0,B. -/
def execBit0B (s : State) : Result := bitTest 0 (.reg .b) 2 s
/-- R222 BIT 0,C. -/
def execBit0C (s : State) : Result := bitTest 0 (.reg .c) 2 s
/-- R222 BIT 0,D. -/
def execBit0D (s : State) : Result := bitTest 0 (.reg .d) 2 s
/-- R222 BIT 0,E. -/
def execBit0E (s : State) : Result := bitTest 0 (.reg .e) 2 s
/-- R222 BIT 0,H. -/
def execBit0H (s : State) : Result := bitTest 0 (.reg .h) 2 s
/-- R222 BIT 0,L. -/
def execBit0L (s : State) : Result := bitTest 0 (.reg .l) 2 s
/-- R222 BIT 0,(HL). -/
def execBit0AtHL (s : State) : Result := bitTest 0 .atHL 3 s
/-- R222 BIT 0,A. -/
def execBit0A (s : State) : Result := bitTest 0 (.reg .a) 2 s
/-- R222 BIT 1,B. -/
def execBit1B (s : State) : Result := bitTest 1 (.reg .b) 2 s
/-- R222 BIT 1,C. -/
def execBit1C (s : State) : Result := bitTest 1 (.reg .c) 2 s
/-- R222 BIT 1,D. -/
def execBit1D (s : State) : Result := bitTest 1 (.reg .d) 2 s
/-- R222 BIT 1,E. -/
def execBit1E (s : State) : Result := bitTest 1 (.reg .e) 2 s
/-- R222 BIT 1,H. -/
def execBit1H (s : State) : Result := bitTest 1 (.reg .h) 2 s
/-- R222 BIT 1,L. -/
def execBit1L (s : State) : Result := bitTest 1 (.reg .l) 2 s
/-- R222 BIT 1,(HL). -/
def execBit1AtHL (s : State) : Result := bitTest 1 .atHL 3 s
/-- R222 BIT 1,A. -/
def execBit1A (s : State) : Result := bitTest 1 (.reg .a) 2 s
/-- R222 BIT 2,B. -/
def execBit2B (s : State) : Result := bitTest 2 (.reg .b) 2 s
/-- R222 BIT 2,C. -/
def execBit2C (s : State) : Result := bitTest 2 (.reg .c) 2 s
/-- R222 BIT 2,D. -/
def execBit2D (s : State) : Result := bitTest 2 (.reg .d) 2 s
/-- R222 BIT 2,E. -/
def execBit2E (s : State) : Result := bitTest 2 (.reg .e) 2 s
/-- R222 BIT 2,H. -/
def execBit2H (s : State) : Result := bitTest 2 (.reg .h) 2 s
/-- R222 BIT 2,L. -/
def execBit2L (s : State) : Result := bitTest 2 (.reg .l) 2 s
/-- R222 BIT 2,(HL). -/
def execBit2AtHL (s : State) : Result := bitTest 2 .atHL 3 s
/-- R222 BIT 2,A. -/
def execBit2A (s : State) : Result := bitTest 2 (.reg .a) 2 s
/-- R222 BIT 3,B. -/
def execBit3B (s : State) : Result := bitTest 3 (.reg .b) 2 s
/-- R222 BIT 3,C. -/
def execBit3C (s : State) : Result := bitTest 3 (.reg .c) 2 s
/-- R222 BIT 3,D. -/
def execBit3D (s : State) : Result := bitTest 3 (.reg .d) 2 s
/-- R222 BIT 3,E. -/
def execBit3E (s : State) : Result := bitTest 3 (.reg .e) 2 s
/-- R222 BIT 3,H. -/
def execBit3H (s : State) : Result := bitTest 3 (.reg .h) 2 s
/-- R222 BIT 3,L. -/
def execBit3L (s : State) : Result := bitTest 3 (.reg .l) 2 s
/-- R222 BIT 3,(HL). -/
def execBit3AtHL (s : State) : Result := bitTest 3 .atHL 3 s
/-- R222 BIT 3,A. -/
def execBit3A (s : State) : Result := bitTest 3 (.reg .a) 2 s
/-- R222 BIT 4,B. -/
def execBit4B (s : State) : Result := bitTest 4 (.reg .b) 2 s
/-- R222 BIT 4,C. -/
def execBit4C (s : State) : Result := bitTest 4 (.reg .c) 2 s
/-- R222 BIT 4,D. -/
def execBit4D (s : State) : Result := bitTest 4 (.reg .d) 2 s
/-- R222 BIT 4,E. -/
def execBit4E (s : State) : Result := bitTest 4 (.reg .e) 2 s
/-- R222 BIT 4,H. -/
def execBit4H (s : State) : Result := bitTest 4 (.reg .h) 2 s
/-- R222 BIT 4,L. -/
def execBit4L (s : State) : Result := bitTest 4 (.reg .l) 2 s
/-- R222 BIT 4,(HL). -/
def execBit4AtHL (s : State) : Result := bitTest 4 .atHL 3 s
/-- R222 BIT 4,A. -/
def execBit4A (s : State) : Result := bitTest 4 (.reg .a) 2 s
/-- R222 BIT 5,B. -/
def execBit5B (s : State) : Result := bitTest 5 (.reg .b) 2 s
/-- R222 BIT 5,C. -/
def execBit5C (s : State) : Result := bitTest 5 (.reg .c) 2 s
/-- R222 BIT 5,D. -/
def execBit5D (s : State) : Result := bitTest 5 (.reg .d) 2 s
/-- R222 BIT 5,E. -/
def execBit5E (s : State) : Result := bitTest 5 (.reg .e) 2 s
/-- R222 BIT 5,H. -/
def execBit5H (s : State) : Result := bitTest 5 (.reg .h) 2 s
/-- R222 BIT 5,L. -/
def execBit5L (s : State) : Result := bitTest 5 (.reg .l) 2 s
/-- R222 BIT 5,(HL). -/
def execBit5AtHL (s : State) : Result := bitTest 5 .atHL 3 s
/-- R222 BIT 5,A. -/
def execBit5A (s : State) : Result := bitTest 5 (.reg .a) 2 s
/-- R222 BIT 6,B. -/
def execBit6B (s : State) : Result := bitTest 6 (.reg .b) 2 s
/-- R222 BIT 6,C. -/
def execBit6C (s : State) : Result := bitTest 6 (.reg .c) 2 s
/-- R222 BIT 6,D. -/
def execBit6D (s : State) : Result := bitTest 6 (.reg .d) 2 s
/-- R222 BIT 6,E. -/
def execBit6E (s : State) : Result := bitTest 6 (.reg .e) 2 s
/-- R222 BIT 6,H. -/
def execBit6H (s : State) : Result := bitTest 6 (.reg .h) 2 s
/-- R222 BIT 6,L. -/
def execBit6L (s : State) : Result := bitTest 6 (.reg .l) 2 s
/-- R222 BIT 6,(HL). -/
def execBit6AtHL (s : State) : Result := bitTest 6 .atHL 3 s
/-- R222 BIT 6,A. -/
def execBit6A (s : State) : Result := bitTest 6 (.reg .a) 2 s
/-- R222 BIT 7,B. -/
def execBit7B (s : State) : Result := bitTest 7 (.reg .b) 2 s
/-- R222 BIT 7,C. -/
def execBit7C (s : State) : Result := bitTest 7 (.reg .c) 2 s
/-- R222 BIT 7,D. -/
def execBit7D (s : State) : Result := bitTest 7 (.reg .d) 2 s
/-- R222 BIT 7,E. -/
def execBit7E (s : State) : Result := bitTest 7 (.reg .e) 2 s
/-- R222 BIT 7,H. -/
def execBit7H (s : State) : Result := bitTest 7 (.reg .h) 2 s
/-- R222 BIT 7,L. -/
def execBit7L (s : State) : Result := bitTest 7 (.reg .l) 2 s
/-- R222 BIT 7,(HL). -/
def execBit7AtHL (s : State) : Result := bitTest 7 .atHL 3 s
/-- R222 BIT 7,A. -/
def execBit7A (s : State) : Result := bitTest 7 (.reg .a) 2 s
/-- R223 RES 0,B. -/
def execRes0B (s : State) : Result := bitReset 0 (.reg .b) 2 s
/-- R223 RES 0,C. -/
def execRes0C (s : State) : Result := bitReset 0 (.reg .c) 2 s
/-- R223 RES 0,D. -/
def execRes0D (s : State) : Result := bitReset 0 (.reg .d) 2 s
/-- R223 RES 0,E. -/
def execRes0E (s : State) : Result := bitReset 0 (.reg .e) 2 s
/-- R223 RES 0,H. -/
def execRes0H (s : State) : Result := bitReset 0 (.reg .h) 2 s
/-- R223 RES 0,L. -/
def execRes0L (s : State) : Result := bitReset 0 (.reg .l) 2 s
/-- R223 RES 0,(HL). -/
def execRes0AtHL (s : State) : Result := bitReset 0 .atHL 4 s
/-- R223 RES 0,A. -/
def execRes0A (s : State) : Result := bitReset 0 (.reg .a) 2 s
/-- R223 RES 1,B. -/
def execRes1B (s : State) : Result := bitReset 1 (.reg .b) 2 s
/-- R223 RES 1,C. -/
def execRes1C (s : State) : Result := bitReset 1 (.reg .c) 2 s
/-- R223 RES 1,D. -/
def execRes1D (s : State) : Result := bitReset 1 (.reg .d) 2 s
/-- R223 RES 1,E. -/
def execRes1E (s : State) : Result := bitReset 1 (.reg .e) 2 s
/-- R223 RES 1,H. -/
def execRes1H (s : State) : Result := bitReset 1 (.reg .h) 2 s
/-- R223 RES 1,L. -/
def execRes1L (s : State) : Result := bitReset 1 (.reg .l) 2 s
/-- R223 RES 1,(HL). -/
def execRes1AtHL (s : State) : Result := bitReset 1 .atHL 4 s
/-- R223 RES 1,A. -/
def execRes1A (s : State) : Result := bitReset 1 (.reg .a) 2 s
/-- R223 RES 2,B. -/
def execRes2B (s : State) : Result := bitReset 2 (.reg .b) 2 s
/-- R223 RES 2,C. -/
def execRes2C (s : State) : Result := bitReset 2 (.reg .c) 2 s
/-- R223 RES 2,D. -/
def execRes2D (s : State) : Result := bitReset 2 (.reg .d) 2 s
/-- R223 RES 2,E. -/
def execRes2E (s : State) : Result := bitReset 2 (.reg .e) 2 s
/-- R223 RES 2,H. -/
def execRes2H (s : State) : Result := bitReset 2 (.reg .h) 2 s
/-- R223 RES 2,L. -/
def execRes2L (s : State) : Result := bitReset 2 (.reg .l) 2 s
/-- R223 RES 2,(HL). -/
def execRes2AtHL (s : State) : Result := bitReset 2 .atHL 4 s
/-- R223 RES 2,A. -/
def execRes2A (s : State) : Result := bitReset 2 (.reg .a) 2 s
/-- R223 RES 3,B. -/
def execRes3B (s : State) : Result := bitReset 3 (.reg .b) 2 s
/-- R223 RES 3,C. -/
def execRes3C (s : State) : Result := bitReset 3 (.reg .c) 2 s
/-- R223 RES 3,D. -/
def execRes3D (s : State) : Result := bitReset 3 (.reg .d) 2 s
/-- R223 RES 3,E. -/
def execRes3E (s : State) : Result := bitReset 3 (.reg .e) 2 s
/-- R223 RES 3,H. -/
def execRes3H (s : State) : Result := bitReset 3 (.reg .h) 2 s
/-- R223 RES 3,L. -/
def execRes3L (s : State) : Result := bitReset 3 (.reg .l) 2 s
/-- R223 RES 3,(HL). -/
def execRes3AtHL (s : State) : Result := bitReset 3 .atHL 4 s
/-- R223 RES 3,A. -/
def execRes3A (s : State) : Result := bitReset 3 (.reg .a) 2 s
/-- R223 RES 4,B. -/
def execRes4B (s : State) : Result := bitReset 4 (.reg .b) 2 s
/-- R223 RES 4,C. -/
def execRes4C (s : State) : Result := bitReset 4 (.reg .c) 2 s
/-- R223 RES 4,D. -/
def execRes4D (s : State) : Result := bitReset 4 (.reg .d) 2 s
/-- R223 RES 4,E. -/
def execRes4E (s : State) : Result := bitReset 4 (.reg .e) 2 s
/-- R223 RES 4,H. -/
def execRes4H (s : State) : Result := bitReset 4 (.reg .h) 2 s
/-- R223 RES 4,L. -/
def execRes4L (s : State) : Result := bitReset 4 (.reg .l) 2 s
/-- R223 RES 4,(HL). -/
def execRes4AtHL (s : State) : Result := bitReset 4 .atHL 4 s
/-- R223 RES 4,A. -/
def execRes4A (s : State) : Result := bitReset 4 (.reg .a) 2 s
/-- R223 RES 5,B. -/
def execRes5B (s : State) : Result := bitReset 5 (.reg .b) 2 s
/-- R223 RES 5,C. -/
def execRes5C (s : State) : Result := bitReset 5 (.reg .c) 2 s
/-- R223 RES 5,D. -/
def execRes5D (s : State) : Result := bitReset 5 (.reg .d) 2 s
/-- R223 RES 5,E. -/
def execRes5E (s : State) : Result := bitReset 5 (.reg .e) 2 s
/-- R223 RES 5,H. -/
def execRes5H (s : State) : Result := bitReset 5 (.reg .h) 2 s
/-- R223 RES 5,L. -/
def execRes5L (s : State) : Result := bitReset 5 (.reg .l) 2 s
/-- R223 RES 5,(HL). -/
def execRes5AtHL (s : State) : Result := bitReset 5 .atHL 4 s
/-- R223 RES 5,A. -/
def execRes5A (s : State) : Result := bitReset 5 (.reg .a) 2 s
/-- R223 RES 6,B. -/
def execRes6B (s : State) : Result := bitReset 6 (.reg .b) 2 s
/-- R223 RES 6,C. -/
def execRes6C (s : State) : Result := bitReset 6 (.reg .c) 2 s
/-- R223 RES 6,D. -/
def execRes6D (s : State) : Result := bitReset 6 (.reg .d) 2 s
/-- R223 RES 6,E. -/
def execRes6E (s : State) : Result := bitReset 6 (.reg .e) 2 s
/-- R223 RES 6,H. -/
def execRes6H (s : State) : Result := bitReset 6 (.reg .h) 2 s
/-- R223 RES 6,L. -/
def execRes6L (s : State) : Result := bitReset 6 (.reg .l) 2 s
/-- R223 RES 6,(HL). -/
def execRes6AtHL (s : State) : Result := bitReset 6 .atHL 4 s
/-- R223 RES 6,A. -/
def execRes6A (s : State) : Result := bitReset 6 (.reg .a) 2 s
/-- R223 RES 7,B. -/
def execRes7B (s : State) : Result := bitReset 7 (.reg .b) 2 s
/-- R223 RES 7,C. -/
def execRes7C (s : State) : Result := bitReset 7 (.reg .c) 2 s
/-- R223 RES 7,D. -/
def execRes7D (s : State) : Result := bitReset 7 (.reg .d) 2 s
/-- R223 RES 7,E. -/
def execRes7E (s : State) : Result := bitReset 7 (.reg .e) 2 s
/-- R223 RES 7,H. -/
def execRes7H (s : State) : Result := bitReset 7 (.reg .h) 2 s
/-- R223 RES 7,L. -/
def execRes7L (s : State) : Result := bitReset 7 (.reg .l) 2 s
/-- R223 RES 7,(HL). -/
def execRes7AtHL (s : State) : Result := bitReset 7 .atHL 4 s
/-- R223 RES 7,A. -/
def execRes7A (s : State) : Result := bitReset 7 (.reg .a) 2 s
/-- R224 SET 0,B. -/
def execSet0B (s : State) : Result := bitSetOn 0 (.reg .b) 2 s
/-- R224 SET 0,C. -/
def execSet0C (s : State) : Result := bitSetOn 0 (.reg .c) 2 s
/-- R224 SET 0,D. -/
def execSet0D (s : State) : Result := bitSetOn 0 (.reg .d) 2 s
/-- R224 SET 0,E. -/
def execSet0E (s : State) : Result := bitSetOn 0 (.reg .e) 2 s
/-- R224 SET 0,H. -/
def execSet0H (s : State) : Result := bitSetOn 0 (.reg .h) 2 s
/-- R224 SET 0,L. -/
def execSet0L (s : State) : Result := bitSetOn 0 (.reg .l) 2 s
/-- R224 SET 0,(HL). -/
def execSet0AtHL (s : State) : Result := bitSetOn 0 .atHL 4 s
/-- R224 SET 0,A. -/
def execSet0A (s : State) : Result := bitSetOn 0 (.reg .a) 2 s
/-- R224 SET 1,B. -/
def execSet1B (s : State) : Result := bitSetOn 1 (.reg .b) 2 s
/-- R224 SET 1,C. -/
def execSet1C (s : State) : Result := bitSetOn 1 (.reg .c) 2 s
/-- R224 SET 1,D. -/
def execSet1D (s : State) : Result := bitSetOn 1 (.reg .d) 2 s
/-- R224 SET 1,E. -/
def execSet1E (s : State) : Result := bitSetOn 1 (.reg .e) 2 s
/-- R224 SET 1,H. -/
def execSet1H (s : State) : Result := bitSetOn 1 (.reg .h) 2 s
/-- R224 SET 1,L. -/
def execSet1L (s : State) : Result := bitSetOn 1 (.reg .l) 2 s
/-- R224 SET 1,(HL). -/
def execSet1AtHL (s : State) : Result := bitSetOn 1 .atHL 4 s
/-- R224 SET 1,A. -/
def execSet1A (s : State) : Result := bitSetOn 1 (.reg .a) 2 s
/-- R224 SET 2,B. -/
def execSet2B (s : State) : Result := bitSetOn 2 (.reg .b) 2 s
/-- R224 SET 2,C. -/
def execSet2C (s : State) : Result := bitSetOn 2 (.reg .c) 2 s
/-- R224 SET 2,D. -/
def execSet2D (s : State) : Result := bitSetOn 2 (.reg .d) 2 s
/-- R224 SET 2,E. -/
def execSet2E (s : State) : Result := bitSetOn 2 (.reg .e) 2 s
/-- R224 SET 2,H. -/
def execSet2H (s : State) : Result := bitSetOn 2 (.reg .h) 2 s
/-- R224 SET 2,L. -/
def execSet2L (s : State) : Result := bitSetOn 2 (.reg .l) 2 s
/-- R224 SET 2,(HL). -/
def execSet2AtHL (s : State) : Result := bitSetOn 2 .atHL 4 s
/-- R224 SET 2,A. -/
def execSet2A (s : State) : Result := bitSetOn 2 (.reg .a) 2 s
/-- R224 SET 3,B. -/
def execSet3B (s : State) : Result := bitSetOn 3 (.reg .b) 2 s
/-- R224 SET 3,C. -/
def execSet3C (s : State) : Result := bitSetOn 3 (.reg .c) 2 s
/-- R224 SET 3,D. -/
def execSet3D (s : State) : Result := bitSetOn 3 (.reg .d) 2 s
/-- R224 SET 3,E. -/
def execSet3E (s : State) : Result := bitSetOn 3 (.reg .e) 2 s
/-- R224 SET 3,H. -/
def execSet3H (s : State) : Result := bitSetOn 3 (.reg .h) 2 s
/-- R224 SET 3,L. -/
def execSet3L (s : State) : Result := bitSetOn 3 (.reg .l) 2 s
/-- R224 SET 3,(HL). -/
def execSet3AtHL (s : State) : Result := bitSetOn 3 .atHL 4 s
/-- R224 SET 3,A. -/
def execSet3A (s : State) : Result := bitSetOn 3 (.reg .a) 2 s
/-- R224 SET 4,B. -/
def execSet4B (s : State) : Result := bitSetOn 4 (.reg .b) 2 s
/-- R224 SET 4,C. -/
def execSet4C (s : State) : Result := bitSetOn 4 (.reg .c) 2 s
/-- R224 SET 4,D. -/
def execSet4D (s : State) : Result := bitSetOn 4 (.reg .d) 2 s
/-- R224 SET 4,E. -/
def execSet4E (s : State) : Result := bitSetOn 4 (.reg .e) 2 s
/-- R224 SET 4,H. -/
def execSet4H (s : State) : Result := bitSetOn 4 (.reg .h) 2 s
/-- R224 SET 4,L. -/
def execSet4L (s : State) : Result := bitSetOn 4 (.reg .l) 2 s
/-- R224 SET 4,(HL). -/
def execSet4AtHL (s : State) : Result := bitSetOn 4 .atHL 4 s
/-- R224 SET 4,A. -/
def execSet4A (s : State) : Result := bitSetOn 4 (.reg .a) 2 s
/-- R224 SET 5,B. -/
def execSet5B (s : State) : Result := bitSetOn 5 (.reg .b) 2 s
/-- R224 SET 5,C. -/
def execSet5C (s : State) : Result := bitSetOn 5 (.reg .c) 2 s
/-- R224 SET 5,D. -/
def execSet5D (s : State) : Result := bitSetOn 5 (.reg .d) 2 s
/-- R224 SET 5,E. -/
def execSet5E (s : State) : Result := bitSetOn 5 (.reg .e) 2 s
/-- R224 SET 5,H. -/
def execSet5H (s : State) : Result := bitSetOn 5 (.reg .h) 2 s
/-- R224 SET 5,L. -/
def execSet5L (s : State) : Result := bitSetOn 5 (.reg .l) 2 s
/-- R224 SET 5,(HL). -/
def execSet5AtHL (s : State) : Result := bitSetOn 5 .atHL 4 s
/-- R224 SET 5,A. -/
def execSet5A (s : State) : Result := bitSetOn 5 (.reg .a) 2 s
/-- R224 SET 6,B. -/
def execSet6B (s : State) : Result := bitSetOn 6 (.reg .b) 2 s
/-- R224 SET 6,C. -/
def execSet6C (s : State) : Result := bitSetOn 6 (.reg .c) 2 s
/-- R224 SET 6,D. -/
def execSet6D (s : State) : Result := bitSetOn 6 (.reg .d) 2 s
/-- R224 SET 6,E. -/
def execSet6E (s : State) : Result := bitSetOn 6 (.reg .e) 2 s
/-- R224 SET 6,H. -/
def execSet6H (s : State) : Result := bitSetOn 6 (.reg .h) 2 s
/-- R224 SET 6,L. -/
def execSet6L (s : State) : Result := bitSetOn 6 (.reg .l) 2 s
/-- R224 SET 6,(HL). -/
def execSet6AtHL (s : State) : Result := bitSetOn 6 .atHL 4 s
/-- R224 SET 6,A. -/
def execSet6A (s : State) : Result := bitSetOn 6 (.reg .a) 2 s
/-- R224 SET 7,B. -/
def execSet7B (s : State) : Result := bitSetOn 7 (.reg .b) 2 s
/-- R224 SET 7,C. -/
def execSet7C (s : State) : Result := bitSetOn 7 (.reg .c) 2 s
/-- R224 SET 7,D. -/
def execSet7D (s : State) : Result := bitSetOn 7 (.reg .d) 2 s
/-- R224 SET 7,E. -/
def execSet7E (s : State) : Result := bitSetOn 7 (.reg .e) 2 s
/-- R224 SET 7,H. -/
def execSet7H (s : State) : Result := bitSetOn 7 (.reg .h) 2 s
/-- R224 SET 7,L. -/
def execSet7L (s : State) : Result := bitSetOn 7 (.reg .l) 2 s
/-- R224 SET 7,(HL). -/
def execSet7AtHL (s : State) : Result := bitSetOn 7 .atHL 4 s
/-- R224 SET 7,A. -/
def execSet7A (s : State) : Result := bitSetOn 7 (.reg .a) 2 s

end Sys2Proof.Machine
end

