-- ==== Sys2Proof/Machine/Control.lean ====
section
/-! DEFINITION. The control-flow and CPU-control instructions (spec 45_control_flow.md). No flag changes. -/

namespace Sys2Proof.Machine

/-- R283: the target of a relative jump, from the address of the next instruction. -/
def relTarget (e8 : Byte) (s : State) : Word := s.pc + 2 + sext16 e8

/-- An unconditional jump (R280, R282, R283). -/
def jump (target : State → Word) (cycles : Nat) (s : State) : Result := .next (jumpTo (target s) cycles s)

/-- A conditional jump (R281, R284): the extra cost when it is taken, and only the fall through when it is not (R285). -/
def jumpIf (cc : Cond) (target : State → Word) (len : Word) (cycles xtra : Nat) (s : State) : Result :=
  if condHolds cc s.regs.f then .next (jumpTo (target s) (cycles + xtra) s) else .next (retire len cycles s)

/-- R286, R290: the address of the next instruction pushed, then the jump. The target is taken from the state after the push, since the
accesses of an instruction are made in the order its rule lists them (R87 (a)). -/
def call (target : State → Word) (len : Word) (cycles : Nat) (s : State) : Result :=
  mapNext (push (s.pc + len) s) fun t => jumpTo (target t) cycles t

/-- R287: CALL cc,a16. -/
def callIf (cc : Cond) (target : State → Word) (len : Word) (cycles xtra : Nat) (s : State) : Result :=
  if condHolds cc s.regs.f then call target len (cycles + xtra) s else .next (retire len cycles s)

/-- R289: RET cc. -/
def returnIf (cc : Cond) (len : Word) (cycles xtra : Nat) (s : State) : Result :=
  if condHolds cc s.regs.f then .next (returnFromCall (cycles + xtra) s) else .next (retire len cycles s)

/-- R295 NOP. -/
def execNop (s : State) : Result := .next (retire 1 1 s)
/-- R294 STOP. -/
def execStop (s : State) : Result := .next (retire 2 1 s)
/-- R283 JR e8. -/
def execJrE8 (e8 : Byte) (s : State) : Result := jump (relTarget e8) 3 s
/-- R284 JR NZ,e8. -/
def execJrNZE8 (e8 : Byte) (s : State) : Result := jumpIf .nz (relTarget e8) 2 2 1 s
/-- R284 JR Z,e8. -/
def execJrZE8 (e8 : Byte) (s : State) : Result := jumpIf .z (relTarget e8) 2 2 1 s
/-- R284 JR NC,e8. -/
def execJrNCE8 (e8 : Byte) (s : State) : Result := jumpIf .nc (relTarget e8) 2 2 1 s
/-- R284 JR C,e8. -/
def execJrCE8 (e8 : Byte) (s : State) : Result := jumpIf .c (relTarget e8) 2 2 1 s
/-- R293 HALT. -/
def execHalt (s : State) : Result := .next (retire 1 1 { s with halt := true })
/-- R289 RET NZ. -/
def execRetNZ (s : State) : Result := returnIf .nz 1 2 3 s
/-- R281 JP NZ,a16. -/
def execJpNZA16 (a16 : Word) (s : State) : Result := jumpIf .nz (fun _ => a16) 3 3 1 s
/-- R280 JP a16. -/
def execJpA16 (a16 : Word) (s : State) : Result := jump (fun _ => a16) 4 s
/-- R287 CALL NZ,a16: taken, it reads its operand after the push, as R286 (log entry 29). -/
def execCallNZA16 (_a16 : Word) (s : State) : Result := callIf .nz imm16 3 3 3 s
/-- R290 RST 0x00. -/
def execRst00 (s : State) : Result := call (fun _ => 0x0000) 1 4 s
/-- R289 RET Z. -/
def execRetZ (s : State) : Result := returnIf .z 1 2 3 s
/-- R288 RET. -/
def execRet (s : State) : Result := .next (returnFromCall 4 s)
/-- R281 JP Z,a16. -/
def execJpZA16 (a16 : Word) (s : State) : Result := jumpIf .z (fun _ => a16) 3 3 1 s
/-- R287 CALL Z,a16: taken, it reads its operand after the push, as R286 (log entry 29). -/
def execCallZA16 (_a16 : Word) (s : State) : Result := callIf .z imm16 3 3 3 s
/-- R286 CALL a16: `Push((pc + 3) mod 2^16); pc <- imm16`. The operand is read after the push, so it is the decoded one unless the pushed
word overlies it (log entry 29). -/
def execCallA16 (_a16 : Word) (s : State) : Result := call imm16 3 6 s
/-- R290 RST 0x08. -/
def execRst08 (s : State) : Result := call (fun _ => 0x0008) 1 4 s
/-- R289 RET NC. -/
def execRetNC (s : State) : Result := returnIf .nc 1 2 3 s
/-- R281 JP NC,a16. -/
def execJpNCA16 (a16 : Word) (s : State) : Result := jumpIf .nc (fun _ => a16) 3 3 1 s
/-- R287 CALL NC,a16: taken, it reads its operand after the push, as R286 (log entry 29). -/
def execCallNCA16 (_a16 : Word) (s : State) : Result := callIf .nc imm16 3 3 3 s
/-- R290 RST 0x10. -/
def execRst10 (s : State) : Result := call (fun _ => 0x0010) 1 4 s
/-- R289 RET C. -/
def execRetC (s : State) : Result := returnIf .c 1 2 3 s
/-- R292 RETI. -/
def execReti (s : State) : Result := .next (returnFromInterrupt 4 s)
/-- R281 JP C,a16. -/
def execJpCA16 (a16 : Word) (s : State) : Result := jumpIf .c (fun _ => a16) 3 3 1 s
/-- R287 CALL C,a16: taken, it reads its operand after the push, as R286 (log entry 29). -/
def execCallCA16 (_a16 : Word) (s : State) : Result := callIf .c imm16 3 3 3 s
/-- R290 RST 0x18. -/
def execRst18 (s : State) : Result := call (fun _ => 0x0018) 1 4 s
/-- R290 RST 0x20. -/
def execRst20 (s : State) : Result := call (fun _ => 0x0020) 1 4 s
/-- R282 JP HL. -/
def execJpHL (s : State) : Result := jump (fun t => t.hl) 1 s
/-- R290 RST 0x28. -/
def execRst28 (s : State) : Result := call (fun _ => 0x0028) 1 4 s
/-- R297 DI. -/
def execDi (s : State) : Result := .next (retire 1 1 { s with ime := false })
/-- R290 RST 0x30. -/
def execRst30 (s : State) : Result := call (fun _ => 0x0030) 1 4 s
/-- R298 EI. -/
def execEi (s : State) : Result := .next (retire 1 1 { s with ime := true })
/-- R290 RST 0x38. -/
def execRst38 (s : State) : Result := call (fun _ => 0x0038) 1 4 s

end Sys2Proof.Machine
end

