-- ==== Sys2Proof/Machine/Load.lean ====
section
/-! DEFINITION. The load, store and stack instructions (spec 44_load_store.md). No flag changes but by POP AF, and `scratch` stays as it
is (R266). -/

namespace Sys2Proof.Machine

/-- A byte register loaded with a value the state gives. -/
def loadReg (r : Reg8) (value : State → Byte) (len : Word) (cycles : Nat) (s : State) : Result :=
  .next (retire len cycles (s.setReg r (value s)))

/-- A byte stored: `MemWrite(a, 1, v)` (R78). -/
def store8 (address : State → Word) (value : State → Byte) (len : Word) (cycles : Nat) (s : State) : Result :=
  mapNext (memWrite8 s (address s) (value s)) (retire len cycles)

/-- R249, R251, R252: LD A,(rm). -/
def loadAPointer (p : Pointer) (s : State) : Result :=
  .next (retire 1 2 (movePointer p (s.setReg .a (memRead8 s (pointerAddr p s)))))

/-- R250, R253, R254: LD (rm),A. -/
def storeAPointer (p : Pointer) (s : State) : Result :=
  mapNext (memWrite8 s (pointerAddr p s) s.regs.a) fun t => retire 1 2 (movePointer p t)

/-- R259: LD rr,n16. -/
def loadPairImm (p : Reg16) (n16 : Word) (s : State) : Result := .next (retire 3 3 (s.setPair p n16))

/-- R260: LD (a16),SP. -/
def storeSP (a16 : Word) (s : State) : Result := mapNext (memWrite16 s a16 s.sp) (retire 3 5)

/-- R261: LD SP,HL. -/
def loadSPHL (s : State) : Result := .next (retire 1 2 (s.setPair .sp s.hl))

/-- R262: PUSH rs. -/
def pushPair (p : StackPair) (s : State) : Result := mapNext (push (s.stackPair p) s) (retire 1 4)

/-- R263: POP rs. -/
def popPair (p : StackPair) (s : State) : Result := .next (retire 1 3 ((dropWord s).setStackPair p (popValue s)))

/-- R259 LD BC,n16. -/
def execLdBCN16 (n16 : Word) (s : State) : Result := loadPairImm .bc n16 s
/-- R250 LD (BC),A. -/
def execLdAtBCA (s : State) : Result := storeAPointer .bc s
/-- R246 LD B,n8. -/
def execLdBN8 (n8 : Byte) (s : State) : Result := loadReg .b (fun _ => n8) 2 2 s
/-- R260 LD (a16),SP. -/
def execLdAtA16SP (a16 : Word) (s : State) : Result := storeSP a16 s
/-- R249 LD A,(BC). -/
def execLdAAtBC (s : State) : Result := loadAPointer .bc s
/-- R246 LD C,n8. -/
def execLdCN8 (n8 : Byte) (s : State) : Result := loadReg .c (fun _ => n8) 2 2 s
/-- R259 LD DE,n16. -/
def execLdDEN16 (n16 : Word) (s : State) : Result := loadPairImm .de n16 s
/-- R250 LD (DE),A. -/
def execLdAtDEA (s : State) : Result := storeAPointer .de s
/-- R246 LD D,n8. -/
def execLdDN8 (n8 : Byte) (s : State) : Result := loadReg .d (fun _ => n8) 2 2 s
/-- R249 LD A,(DE). -/
def execLdAAtDE (s : State) : Result := loadAPointer .de s
/-- R246 LD E,n8. -/
def execLdEN8 (n8 : Byte) (s : State) : Result := loadReg .e (fun _ => n8) 2 2 s
/-- R259 LD HL,n16. -/
def execLdHLN16 (n16 : Word) (s : State) : Result := loadPairImm .hl n16 s
/-- R253 LD (HL+),A. -/
def execLdAtHLIncA (s : State) : Result := storeAPointer .hlInc s
/-- R246 LD H,n8. -/
def execLdHN8 (n8 : Byte) (s : State) : Result := loadReg .h (fun _ => n8) 2 2 s
/-- R251 LD A,(HL+). -/
def execLdAAtHLInc (s : State) : Result := loadAPointer .hlInc s
/-- R246 LD L,n8. -/
def execLdLN8 (n8 : Byte) (s : State) : Result := loadReg .l (fun _ => n8) 2 2 s
/-- R259 LD SP,n16. -/
def execLdSPN16 (n16 : Word) (s : State) : Result := loadPairImm .sp n16 s
/-- R254 LD (HL-),A. -/
def execLdAtHLDecA (s : State) : Result := storeAPointer .hlDec s
/-- R248 LD (HL),n8. -/
def execLdAtHLN8 (n8 : Byte) (s : State) : Result := store8 (fun t => t.hl) (fun _ => n8) 2 3 s
/-- R252 LD A,(HL-). -/
def execLdAAtHLDec (s : State) : Result := loadAPointer .hlDec s
/-- R246 LD A,n8. -/
def execLdAN8 (n8 : Byte) (s : State) : Result := loadReg .a (fun _ => n8) 2 2 s
/-- R245 LD B,B. -/
def execLdBB (s : State) : Result := loadReg .b (fun t => t.reg .b) 1 1 s
/-- R245 LD B,C. -/
def execLdBC (s : State) : Result := loadReg .b (fun t => t.reg .c) 1 1 s
/-- R245 LD B,D. -/
def execLdBD (s : State) : Result := loadReg .b (fun t => t.reg .d) 1 1 s
/-- R245 LD B,E. -/
def execLdBE (s : State) : Result := loadReg .b (fun t => t.reg .e) 1 1 s
/-- R245 LD B,H. -/
def execLdBH (s : State) : Result := loadReg .b (fun t => t.reg .h) 1 1 s
/-- R245 LD B,L. -/
def execLdBL (s : State) : Result := loadReg .b (fun t => t.reg .l) 1 1 s
/-- R247 LD B,(HL). -/
def execLdBAtHL (s : State) : Result := loadReg .b (fun t => memRead8 t t.hl) 1 2 s
/-- R245 LD B,A. -/
def execLdBA (s : State) : Result := loadReg .b (fun t => t.reg .a) 1 1 s
/-- R245 LD C,B. -/
def execLdCB (s : State) : Result := loadReg .c (fun t => t.reg .b) 1 1 s
/-- R245 LD C,C. -/
def execLdCC (s : State) : Result := loadReg .c (fun t => t.reg .c) 1 1 s
/-- R245 LD C,D. -/
def execLdCD (s : State) : Result := loadReg .c (fun t => t.reg .d) 1 1 s
/-- R245 LD C,E. -/
def execLdCE (s : State) : Result := loadReg .c (fun t => t.reg .e) 1 1 s
/-- R245 LD C,H. -/
def execLdCH (s : State) : Result := loadReg .c (fun t => t.reg .h) 1 1 s
/-- R245 LD C,L. -/
def execLdCL (s : State) : Result := loadReg .c (fun t => t.reg .l) 1 1 s
/-- R247 LD C,(HL). -/
def execLdCAtHL (s : State) : Result := loadReg .c (fun t => memRead8 t t.hl) 1 2 s
/-- R245 LD C,A. -/
def execLdCA (s : State) : Result := loadReg .c (fun t => t.reg .a) 1 1 s
/-- R245 LD D,B. -/
def execLdDB (s : State) : Result := loadReg .d (fun t => t.reg .b) 1 1 s
/-- R245 LD D,C. -/
def execLdDC (s : State) : Result := loadReg .d (fun t => t.reg .c) 1 1 s
/-- R245 LD D,D. -/
def execLdDD (s : State) : Result := loadReg .d (fun t => t.reg .d) 1 1 s
/-- R245 LD D,E. -/
def execLdDE (s : State) : Result := loadReg .d (fun t => t.reg .e) 1 1 s
/-- R245 LD D,H. -/
def execLdDH (s : State) : Result := loadReg .d (fun t => t.reg .h) 1 1 s
/-- R245 LD D,L. -/
def execLdDL (s : State) : Result := loadReg .d (fun t => t.reg .l) 1 1 s
/-- R247 LD D,(HL). -/
def execLdDAtHL (s : State) : Result := loadReg .d (fun t => memRead8 t t.hl) 1 2 s
/-- R245 LD D,A. -/
def execLdDA (s : State) : Result := loadReg .d (fun t => t.reg .a) 1 1 s
/-- R245 LD E,B. -/
def execLdEB (s : State) : Result := loadReg .e (fun t => t.reg .b) 1 1 s
/-- R245 LD E,C. -/
def execLdEC (s : State) : Result := loadReg .e (fun t => t.reg .c) 1 1 s
/-- R245 LD E,D. -/
def execLdED (s : State) : Result := loadReg .e (fun t => t.reg .d) 1 1 s
/-- R245 LD E,E. -/
def execLdEE (s : State) : Result := loadReg .e (fun t => t.reg .e) 1 1 s
/-- R245 LD E,H. -/
def execLdEH (s : State) : Result := loadReg .e (fun t => t.reg .h) 1 1 s
/-- R245 LD E,L. -/
def execLdEL (s : State) : Result := loadReg .e (fun t => t.reg .l) 1 1 s
/-- R247 LD E,(HL). -/
def execLdEAtHL (s : State) : Result := loadReg .e (fun t => memRead8 t t.hl) 1 2 s
/-- R245 LD E,A. -/
def execLdEA (s : State) : Result := loadReg .e (fun t => t.reg .a) 1 1 s
/-- R245 LD H,B. -/
def execLdHB (s : State) : Result := loadReg .h (fun t => t.reg .b) 1 1 s
/-- R245 LD H,C. -/
def execLdHC (s : State) : Result := loadReg .h (fun t => t.reg .c) 1 1 s
/-- R245 LD H,D. -/
def execLdHD (s : State) : Result := loadReg .h (fun t => t.reg .d) 1 1 s
/-- R245 LD H,E. -/
def execLdHE (s : State) : Result := loadReg .h (fun t => t.reg .e) 1 1 s
/-- R245 LD H,H. -/
def execLdHH (s : State) : Result := loadReg .h (fun t => t.reg .h) 1 1 s
/-- R245 LD H,L. -/
def execLdHL (s : State) : Result := loadReg .h (fun t => t.reg .l) 1 1 s
/-- R247 LD H,(HL). -/
def execLdHAtHL (s : State) : Result := loadReg .h (fun t => memRead8 t t.hl) 1 2 s
/-- R245 LD H,A. -/
def execLdHA (s : State) : Result := loadReg .h (fun t => t.reg .a) 1 1 s
/-- R245 LD L,B. -/
def execLdLB (s : State) : Result := loadReg .l (fun t => t.reg .b) 1 1 s
/-- R245 LD L,C. -/
def execLdLC (s : State) : Result := loadReg .l (fun t => t.reg .c) 1 1 s
/-- R245 LD L,D. -/
def execLdLD (s : State) : Result := loadReg .l (fun t => t.reg .d) 1 1 s
/-- R245 LD L,E. -/
def execLdLE (s : State) : Result := loadReg .l (fun t => t.reg .e) 1 1 s
/-- R245 LD L,H. -/
def execLdLH (s : State) : Result := loadReg .l (fun t => t.reg .h) 1 1 s
/-- R245 LD L,L. -/
def execLdLL (s : State) : Result := loadReg .l (fun t => t.reg .l) 1 1 s
/-- R247 LD L,(HL). -/
def execLdLAtHL (s : State) : Result := loadReg .l (fun t => memRead8 t t.hl) 1 2 s
/-- R245 LD L,A. -/
def execLdLA (s : State) : Result := loadReg .l (fun t => t.reg .a) 1 1 s
/-- R244 LD (HL),B. -/
def execLdAtHLB (s : State) : Result := store8 (fun t => t.hl) (fun t => t.reg .b) 1 2 s
/-- R244 LD (HL),C. -/
def execLdAtHLC (s : State) : Result := store8 (fun t => t.hl) (fun t => t.reg .c) 1 2 s
/-- R244 LD (HL),D. -/
def execLdAtHLD (s : State) : Result := store8 (fun t => t.hl) (fun t => t.reg .d) 1 2 s
/-- R244 LD (HL),E. -/
def execLdAtHLE (s : State) : Result := store8 (fun t => t.hl) (fun t => t.reg .e) 1 2 s
/-- R244 LD (HL),H. -/
def execLdAtHLH (s : State) : Result := store8 (fun t => t.hl) (fun t => t.reg .h) 1 2 s
/-- R244 LD (HL),L. -/
def execLdAtHLL (s : State) : Result := store8 (fun t => t.hl) (fun t => t.reg .l) 1 2 s
/-- R244 LD (HL),A. -/
def execLdAtHLA (s : State) : Result := store8 (fun t => t.hl) (fun t => t.reg .a) 1 2 s
/-- R245 LD A,B. -/
def execLdAB (s : State) : Result := loadReg .a (fun t => t.reg .b) 1 1 s
/-- R245 LD A,C. -/
def execLdAC (s : State) : Result := loadReg .a (fun t => t.reg .c) 1 1 s
/-- R245 LD A,D. -/
def execLdAD (s : State) : Result := loadReg .a (fun t => t.reg .d) 1 1 s
/-- R245 LD A,E. -/
def execLdAE (s : State) : Result := loadReg .a (fun t => t.reg .e) 1 1 s
/-- R245 LD A,H. -/
def execLdAH (s : State) : Result := loadReg .a (fun t => t.reg .h) 1 1 s
/-- R245 LD A,L. -/
def execLdAL (s : State) : Result := loadReg .a (fun t => t.reg .l) 1 1 s
/-- R247 LD A,(HL). -/
def execLdAAtHL (s : State) : Result := loadReg .a (fun t => memRead8 t t.hl) 1 2 s
/-- R245 LD A,A. -/
def execLdAA (s : State) : Result := loadReg .a (fun t => t.reg .a) 1 1 s
/-- R263 POP BC. -/
def execPopBC (s : State) : Result := popPair .bc s
/-- R262 PUSH BC. -/
def execPushBC (s : State) : Result := pushPair .bc s
/-- R263 POP DE. -/
def execPopDE (s : State) : Result := popPair .de s
/-- R262 PUSH DE. -/
def execPushDE (s : State) : Result := pushPair .de s
/-- R256 LDH (a8),A. -/
def execLdhAtA8A (a8 : Byte) (s : State) : Result := store8 (fun _ => windowAddr a8) (fun t => t.reg .a) 2 3 s
/-- R263 POP HL. -/
def execPopHL (s : State) : Result := popPair .hl s
/-- R258 LD (C),A. -/
def execLdAtCA (s : State) : Result := store8 (fun t => windowAddr t.regs.c) (fun t => t.reg .a) 1 2 s
/-- R262 PUSH HL. -/
def execPushHL (s : State) : Result := pushPair .hl s
/-- R265 LD (a16),A. -/
def execLdAtA16A (a16 : Word) (s : State) : Result := store8 (fun _ => a16) (fun t => t.reg .a) 3 4 s
/-- R255 LDH A,(a8). -/
def execLdhAAtA8 (a8 : Byte) (s : State) : Result := loadReg .a (fun t => memRead8 t (windowAddr a8)) 2 3 s
/-- R263 POP AF. -/
def execPopAF (s : State) : Result := popPair .af s
/-- R257 LD A,(C). -/
def execLdAAtC (s : State) : Result := loadReg .a (fun t => memRead8 t (windowAddr t.regs.c)) 1 2 s
/-- R262 PUSH AF. -/
def execPushAF (s : State) : Result := pushPair .af s
/-- R261 LD SP,HL. -/
def execLdSPHL (s : State) : Result := loadSPHL s
/-- R264 LD A,(a16). -/
def execLdAAtA16 (a16 : Word) (s : State) : Result := loadReg .a (fun t => memRead8 t a16) 3 4 s

end Sys2Proof.Machine
end

