-- ==== Sys2Proof/Machine/Rotate.lean ====
section
/-! DEFINITION. The rotate, shift and swap instructions (spec 43_rotate_shift_bit.md R210 to R221). -/

namespace Sys2Proof.Machine

/-- R210 to R213: an accumulator rotate; Z is always cleared (R226). -/
def accRotate (f : State → AluResult) (s : State) : Result :=
  let r := f s
  .next (retire 1 1 (combineFlags .clear .clear .clear .alu ((s.setScratch r).setReg .a (lo8 r.value))))

/-- R225: an extended instruction that reads its operand, writes the result back and composes Z from it, `cs` the source of C. -/
def rewrite8 (o : Operand8) (r : AluResult) (cs : FlagSource) (cycles : Nat) (s : State) : Result :=
  mapNext (wr8 o (lo8 r.value) (s.setScratch r)) fun t => retire 2 cycles (combineFlags .alu .clear .clear cs t)

/-- R214: RLC r. -/
def rlcOn (o : Operand8) (cycles : Nat) (s : State) : Result := rewrite8 o (rotate (rd8 o s) .left) .alu cycles s
/-- R215: RRC r. -/
def rrcOn (o : Operand8) (cycles : Nat) (s : State) : Result := rewrite8 o (rotate (rd8 o s) .right) .alu cycles s
/-- R216: RL r. -/
def rlOn (o : Operand8) (cycles : Nat) (s : State) : Result :=
  rewrite8 o (carryRotate (rd8 o s) .left s.regs.f) .alu cycles s
/-- R217: RR r. -/
def rrOn (o : Operand8) (cycles : Nat) (s : State) : Result :=
  rewrite8 o (carryRotate (rd8 o s) .right s.regs.f) .alu cycles s
/-- R218: SLA r. -/
def slaOn (o : Operand8) (cycles : Nat) (s : State) : Result := rewrite8 o (shift (rd8 o s) .left) .alu cycles s
/-- R219: SRA r. -/
def sraOn (o : Operand8) (cycles : Nat) (s : State) : Result := rewrite8 o (shiftRA (rd8 o s)) .alu cycles s
/-- R220: SWAP r; its C is forced to 0. -/
def swapOn (o : Operand8) (cycles : Nat) (s : State) : Result :=
  let v := rd8 o s
  rewrite8 o (plainResult (lsb4 v ++ msb4 v)) .clear cycles s
/-- R221: SRL r. -/
def srlOn (o : Operand8) (cycles : Nat) (s : State) : Result := rewrite8 o (shift (rd8 o s) .right) .alu cycles s

/-- R210 RLCA. -/
def execRlca (s : State) : Result := accRotate (fun t => rotate t.regs.a .left) s
/-- R211 RRCA. -/
def execRrca (s : State) : Result := accRotate (fun t => rotate t.regs.a .right) s
/-- R212 RLA. -/
def execRla (s : State) : Result := accRotate (fun t => carryRotate t.regs.a .left t.regs.f) s
/-- R213 RRA. -/
def execRra (s : State) : Result := accRotate (fun t => carryRotate t.regs.a .right t.regs.f) s
/-- R214 RLC B. -/
def execRlcB (s : State) : Result := rlcOn (.reg .b) 2 s
/-- R214 RLC C. -/
def execRlcC (s : State) : Result := rlcOn (.reg .c) 2 s
/-- R214 RLC D. -/
def execRlcD (s : State) : Result := rlcOn (.reg .d) 2 s
/-- R214 RLC E. -/
def execRlcE (s : State) : Result := rlcOn (.reg .e) 2 s
/-- R214 RLC H. -/
def execRlcH (s : State) : Result := rlcOn (.reg .h) 2 s
/-- R214 RLC L. -/
def execRlcL (s : State) : Result := rlcOn (.reg .l) 2 s
/-- R214 RLC (HL). -/
def execRlcAtHL (s : State) : Result := rlcOn .atHL 4 s
/-- R214 RLC A. -/
def execRlcA (s : State) : Result := rlcOn (.reg .a) 2 s
/-- R215 RRC B. -/
def execRrcB (s : State) : Result := rrcOn (.reg .b) 2 s
/-- R215 RRC C. -/
def execRrcC (s : State) : Result := rrcOn (.reg .c) 2 s
/-- R215 RRC D. -/
def execRrcD (s : State) : Result := rrcOn (.reg .d) 2 s
/-- R215 RRC E. -/
def execRrcE (s : State) : Result := rrcOn (.reg .e) 2 s
/-- R215 RRC H. -/
def execRrcH (s : State) : Result := rrcOn (.reg .h) 2 s
/-- R215 RRC L. -/
def execRrcL (s : State) : Result := rrcOn (.reg .l) 2 s
/-- R215 RRC (HL). -/
def execRrcAtHL (s : State) : Result := rrcOn .atHL 4 s
/-- R215 RRC A. -/
def execRrcA (s : State) : Result := rrcOn (.reg .a) 2 s
/-- R216 RL B. -/
def execRlB (s : State) : Result := rlOn (.reg .b) 2 s
/-- R216 RL C. -/
def execRlC (s : State) : Result := rlOn (.reg .c) 2 s
/-- R216 RL D. -/
def execRlD (s : State) : Result := rlOn (.reg .d) 2 s
/-- R216 RL E. -/
def execRlE (s : State) : Result := rlOn (.reg .e) 2 s
/-- R216 RL H. -/
def execRlH (s : State) : Result := rlOn (.reg .h) 2 s
/-- R216 RL L. -/
def execRlL (s : State) : Result := rlOn (.reg .l) 2 s
/-- R216 RL (HL). -/
def execRlAtHL (s : State) : Result := rlOn .atHL 4 s
/-- R216 RL A. -/
def execRlA (s : State) : Result := rlOn (.reg .a) 2 s
/-- R217 RR B. -/
def execRrB (s : State) : Result := rrOn (.reg .b) 2 s
/-- R217 RR C. -/
def execRrC (s : State) : Result := rrOn (.reg .c) 2 s
/-- R217 RR D. -/
def execRrD (s : State) : Result := rrOn (.reg .d) 2 s
/-- R217 RR E. -/
def execRrE (s : State) : Result := rrOn (.reg .e) 2 s
/-- R217 RR H. -/
def execRrH (s : State) : Result := rrOn (.reg .h) 2 s
/-- R217 RR L. -/
def execRrL (s : State) : Result := rrOn (.reg .l) 2 s
/-- R217 RR (HL). -/
def execRrAtHL (s : State) : Result := rrOn .atHL 4 s
/-- R217 RR A. -/
def execRrA (s : State) : Result := rrOn (.reg .a) 2 s
/-- R218 SLA B. -/
def execSlaB (s : State) : Result := slaOn (.reg .b) 2 s
/-- R218 SLA C. -/
def execSlaC (s : State) : Result := slaOn (.reg .c) 2 s
/-- R218 SLA D. -/
def execSlaD (s : State) : Result := slaOn (.reg .d) 2 s
/-- R218 SLA E. -/
def execSlaE (s : State) : Result := slaOn (.reg .e) 2 s
/-- R218 SLA H. -/
def execSlaH (s : State) : Result := slaOn (.reg .h) 2 s
/-- R218 SLA L. -/
def execSlaL (s : State) : Result := slaOn (.reg .l) 2 s
/-- R218 SLA (HL). -/
def execSlaAtHL (s : State) : Result := slaOn .atHL 4 s
/-- R218 SLA A. -/
def execSlaA (s : State) : Result := slaOn (.reg .a) 2 s
/-- R219 SRA B. -/
def execSraB (s : State) : Result := sraOn (.reg .b) 2 s
/-- R219 SRA C. -/
def execSraC (s : State) : Result := sraOn (.reg .c) 2 s
/-- R219 SRA D. -/
def execSraD (s : State) : Result := sraOn (.reg .d) 2 s
/-- R219 SRA E. -/
def execSraE (s : State) : Result := sraOn (.reg .e) 2 s
/-- R219 SRA H. -/
def execSraH (s : State) : Result := sraOn (.reg .h) 2 s
/-- R219 SRA L. -/
def execSraL (s : State) : Result := sraOn (.reg .l) 2 s
/-- R219 SRA (HL). -/
def execSraAtHL (s : State) : Result := sraOn .atHL 4 s
/-- R219 SRA A. -/
def execSraA (s : State) : Result := sraOn (.reg .a) 2 s
/-- R220 SWAP B. -/
def execSwapB (s : State) : Result := swapOn (.reg .b) 2 s
/-- R220 SWAP C. -/
def execSwapC (s : State) : Result := swapOn (.reg .c) 2 s
/-- R220 SWAP D. -/
def execSwapD (s : State) : Result := swapOn (.reg .d) 2 s
/-- R220 SWAP E. -/
def execSwapE (s : State) : Result := swapOn (.reg .e) 2 s
/-- R220 SWAP H. -/
def execSwapH (s : State) : Result := swapOn (.reg .h) 2 s
/-- R220 SWAP L. -/
def execSwapL (s : State) : Result := swapOn (.reg .l) 2 s
/-- R220 SWAP (HL). -/
def execSwapAtHL (s : State) : Result := swapOn .atHL 4 s
/-- R220 SWAP A. -/
def execSwapA (s : State) : Result := swapOn (.reg .a) 2 s
/-- R221 SRL B. -/
def execSrlB (s : State) : Result := srlOn (.reg .b) 2 s
/-- R221 SRL C. -/
def execSrlC (s : State) : Result := srlOn (.reg .c) 2 s
/-- R221 SRL D. -/
def execSrlD (s : State) : Result := srlOn (.reg .d) 2 s
/-- R221 SRL E. -/
def execSrlE (s : State) : Result := srlOn (.reg .e) 2 s
/-- R221 SRL H. -/
def execSrlH (s : State) : Result := srlOn (.reg .h) 2 s
/-- R221 SRL L. -/
def execSrlL (s : State) : Result := srlOn (.reg .l) 2 s
/-- R221 SRL (HL). -/
def execSrlAtHL (s : State) : Result := srlOn .atHL 4 s
/-- R221 SRL A. -/
def execSrlA (s : State) : Result := srlOn (.reg .a) 2 s

end Sys2Proof.Machine
end

