-- ==== Sys2Proof/Machine/Timer.lean ====
section
/-! DEFINITION. The timer (spec 60_exceptions.md section 3). Its bus accesses are raw: they do not touch `last_write` (R92). -/

namespace Sys2Proof.Machine

/-- R330: the tapped bit of the counter, by TAC[1:0]. -/
def tapBit (tac : Byte) : Nat :=
  match tac.getLsbD 1, tac.getLsbD 0 with
  | false, false => 9
  | false, true => 3
  | true, false => 5
  | true, true => 7

/-- R330 `TimerState()`. TAC is read from the bus. -/
def timerState (s : State) : Bool :=
  let tac := busRead s Config.tacAddr
  tac.getLsbD 2 && s.counter.getLsbD (tapBit tac)

/-- R333 `TimaIncrement()`: on overflow the reload and the request happen in the same step. -/
def timaIncrement (s : State) : Result :=
  let t := busRead s Config.timaAddr
  if t = 0xFF then mapNext (busWrite s Config.timaAddr (busRead s Config.tmaAddr)) (requestInterrupt .timer)
  else busWrite s Config.timaAddr (t + 1)

/-- R332: TIMA counts a fall of the tap state; then the latch `tap_prev` holds the state after (R331, R334). -/
def countEdge (before after : Bool) (s : State) : Result :=
  mapNext (if before && !after then timaIncrement s else .next s) fun t => { t with tapPrev := after }

/-- R331 `TimerCycle`. -/
def timerCycle (s : State) : Result :=
  let t := { s with counter := s.counter + BitVec.ofNat 16 s.params.timerInc }
  onNext (busWrite t Config.divAddr (hi8 t.counter)) fun u => countEdge (timerState s) (timerState u) u

/-- R334 `TimerWriteHook(a)`. In the TAC branch the state before the store is the latch (decision D8). -/
def timerWriteHook (a : Word) (s : State) : Result :=
  if a = Config.divAddr then
    let t := { s with counter := 0 }
    countEdge (timerState s) (timerState t) t
  else if a = Config.tacAddr then countEdge s.tapPrev (timerState s) s
  else .next s

end Sys2Proof.Machine
end

