-- ==== Sys2Proof/Machine/Cycle.lean ====
section
/-! DEFINITION. The CPU cycle engine (spec 60_exceptions.md section 1), the environment's moves, and the machine cycle (00_scope.md R7). -/

namespace Sys2Proof.Machine

/-- The bytes an instruction at `pc` can take, as the bus reads them now; the addresses wrap (R25, R90, R117). -/
def fetchBytes (s : State) : List Byte := [busRead s s.pc, busRead s (s.pc + 1), busRead s (s.pc + 2)]

/-- R316, R341: the dispatch of the instruction at `pc`. The fetch takes three bytes, so only an opcode without a table entry is
rejected. -/
def dispatch (s : State) : Result :=
  match decode (fetchBytes s) with
  | .ok (i, _) => exec i (s.setScratch .empty)
  | .error _ => .fault (.unknownInstruction (busRead s s.pc) s.pc)

/-- Steps 3 to 5 of R311: an interrupt if IME is set and a line is pending, else an instruction. -/
def interruptOrDispatch (s : State) : Result :=
  match s.pending with
  | some i => if s.ime then takeInterrupt i s else dispatch s
  | none => dispatch s

/-- R311 `CpuCycle`: `last_write` cleared, then an idle cycle, a halted cycle, or the rest. -/
def cpuCycle (s : State) : Result :=
  let t := { s with lastWrite := 0 }
  if t.idle > 0 then .next { t with idle := t.idle - 1 }
  else if t.halt then
    match t.pending with
    | none => .next t
    | some _ => interruptOrDispatch { t with halt := false }
  else interruptOrDispatch t

/-- One move of the environment (R9). -/
def applyMove (m : EnvMove) (s : State) : Result :=
  match m with
  | .request line => .next (requestInterrupt line s)
  | .write a v => busWrite s a v
  | .create size => .next (componentCreate size s)
  | .share dst src => componentShared dst src s
  | .plug c first last => busPlug c first last s
  | .forcedPlug c first last offset => busForcedPlug c first last offset s
  | .unplug c => busUnplug c s
  | .attachCpu => .next (attachCpu s)
  | .load c image => loadImage c image s

/-- R72, R343: an address error is "always caller-recoverable" and the failed operation changes nothing. Log entry 8. -/
def recover (r : Result) (s : State) : Result :=
  match r with
  | .next t => .next t
  | .fault (.addressError _) => .next s
  | .fault e => .fault e
  | .refused e => .refused e

/-- Moves in order. -/
def applyMoves : List EnvMove → State → Result
  | [], s => .next s
  | m :: ms, s => onNext (recover (applyMove m s) s) (applyMoves ms)

/-- R363: machine assembly, moves made before cycle 1. "Any failure during assembly is fatal": nothing is recovered, and the first move
that fails ends the assembly with its fault. -/
def assemble : List EnvMove → State → Result
  | [], s => .next s
  | m :: ms, s => onNext (applyMove m s) (assemble ms)

/-- R363: the moves that assemble the platform of R80, in the order of that rule; components by number, as in `platformComponents`
(decision D17, log entry 13). -/
def platformMoves : List EnvMove :=
  [ .create 8192, .create 8192, .create 8192, .create 160, .create 128, .create 127, .create 0, .create 32768, .create 256,
    .plug 0 0x8000 0x9FFF, .plug 1 0xA000 0xBFFF, .plug 2 0xC000 0xDFFF, .plug 3 0xFE00 0xFE9F, .plug 4 0xFF00 0xFF7F,
    .plug 5 0xFF80 0xFFFE, .share 6 2, .plug 6 0xE000 0xFDFF, .plug 7 0x0000 0x7FFF, .forcedPlug 8 0x0000 0x00FF 0, .attachCpu ]

/-- R360, R363: the assembly of the platform from the construction of the machine, and the boot-ROM-disable listener set waiting; its
result is `State.reset`. -/
def assemblePlatform : Result :=
  mapNext (assemble platformMoves State.construction) fun t => { t with bootListener := some ⟨8, 7⟩ }

/-- The environment's part of a machine cycle, between the CPU and the listeners (R7, R9, decision D25): the next list of moves. -/
def envPhase (s : State) : Result :=
  match s.env with
  | [] => .next s
  | ms :: rest => applyMoves ms { s with env := rest }

/-- Whether a component has a range, that is, is plugged (R46). -/
def isPlugged (s : State) (n : Nat) : Bool :=
  match s.components[n]? with
  | none => false
  | some c => c.range.isSome

/-- R84: the boot-ROM-disable listener. While the boot ROM is still plugged, it unplugs it and force-plugs the cartridge at its full
range, once; the value written is not examined. -/
def bootHook (a : Word) (s : State) : Result :=
  match s.bootListener with
  | none => .next s
  | some l =>
    if a = Config.bootDisableAddr ∧ isPlugged s l.boot then
      applyMoves [.unplug l.boot, .forcedPlug l.cartridge Config.cartFirst Config.cartLast 0]
        { s with bootListener := none }
    else .next s

/-- The listeners of `last_write`: the timer first (R7, R317). -/
def listeners (s : State) : Result := onNext (timerWriteHook s.lastWrite s) fun t => bootHook t.lastWrite t

/-- R7: the machine cycle. -/
def machineCycle (s : State) : Result :=
  onNext (timerCycle s) fun t => onNext (cpuCycle t) fun u => onNext (envPhase u) listeners

/-- Bytes stored at consecutive addresses. -/
def pokeBytes (s : State) (a : Word) : List Byte → State
  | [] => s
  | v :: vs => pokeBytes (poke s a v) (a + 1) vs

/-- Whether the coming machine cycle could take an interrupt before it fetches; the timer can only add its own request. -/
def interruptComing (s : State) : Bool := s.ime && (pendingSet (s.iflag ||| 0x04) s.ie != 0)

/-- The state with bytes placed where the next machine cycle fetches, and nothing before the fetch: no idle cycle, no HALT, no
interrupt. -/
def placeFetch (bytes : List Byte) (s : State) : State :=
  { pokeBytes s s.pc bytes with idle := 0, halt := false, ime := s.ime && !interruptComing s }

end Sys2Proof.Machine
end

