-- ==== Sys2Proof/Machine/Step.lean ====
section
/-! DEFINITION. One step of the machine: one machine cycle (spec 00_scope.md R7, R8). -/

namespace Sys2Proof.Machine

/-- One machine cycle: the timer, the CPU, the environment, the listeners (R7). -/
def step (s : State) : Host.Outcome State Fault Refusal := machineCycle s

/-- `s` with the instruction whose bits are `w` placed where the next machine cycle fetches (log entry 7). -/
def State.withFetchWord (s : State) (nbits w : Nat) : State := placeFetch (tableBytes nbits w) s

end Sys2Proof.Machine
end

