-- ==== Sys2Proof/Machine/OpTable.lean ====
section
/-! DEFINITION. The opcode metadata table: the record of each row of spec/opcode_table.json (R100, R118, R122). The meanings state
their own lengths and costs from the rules; this table is the second source they are compared with. -/

namespace Sys2Proof

/-- The three instruction families of R100. -/
inductive Family where
  | alu | load | control
  deriving DecidableEq, Repr

/-- R100: "a record {family tag, byte length, base cycle cost, extra cycle cost if a condition is taken}". -/
structure OpRow where
  family : Family
  bytes : Nat
  cycles : Nat
  xtra : Nat
  deriving DecidableEq, Repr

/-- The row of an instruction (R122). -/
def Instr.row : Instr → OpRow
  | .nop => ⟨.control, 1, 1, 0⟩
  | .ldBCN16 _ => ⟨.load, 3, 3, 0⟩
  | .ldAtBCA => ⟨.load, 1, 2, 0⟩
  | .incBC => ⟨.alu, 1, 2, 0⟩
  | .incB => ⟨.alu, 1, 1, 0⟩
  | .decB => ⟨.alu, 1, 1, 0⟩
  | .ldBN8 _ => ⟨.load, 2, 2, 0⟩
  | .rlca => ⟨.alu, 1, 1, 0⟩
  | .ldAtA16SP _ => ⟨.load, 3, 5, 0⟩
  | .addHLBC => ⟨.alu, 1, 2, 0⟩
  | .ldAAtBC => ⟨.load, 1, 2, 0⟩
  | .decBC => ⟨.alu, 1, 2, 0⟩
  | .incC => ⟨.alu, 1, 1, 0⟩
  | .decC => ⟨.alu, 1, 1, 0⟩
  | .ldCN8 _ => ⟨.load, 2, 2, 0⟩
  | .rrca => ⟨.alu, 1, 1, 0⟩
  | .stop => ⟨.control, 2, 1, 0⟩
  | .ldDEN16 _ => ⟨.load, 3, 3, 0⟩
  | .ldAtDEA => ⟨.load, 1, 2, 0⟩
  | .incDE => ⟨.alu, 1, 2, 0⟩
  | .incD => ⟨.alu, 1, 1, 0⟩
  | .decD => ⟨.alu, 1, 1, 0⟩
  | .ldDN8 _ => ⟨.load, 2, 2, 0⟩
  | .rla => ⟨.alu, 1, 1, 0⟩
  | .jrE8 _ => ⟨.control, 2, 3, 0⟩
  | .addHLDE => ⟨.alu, 1, 2, 0⟩
  | .ldAAtDE => ⟨.load, 1, 2, 0⟩
  | .decDE => ⟨.alu, 1, 2, 0⟩
  | .incE => ⟨.alu, 1, 1, 0⟩
  | .decE => ⟨.alu, 1, 1, 0⟩
  | .ldEN8 _ => ⟨.load, 2, 2, 0⟩
  | .rra => ⟨.alu, 1, 1, 0⟩
  | .jrNZE8 _ => ⟨.control, 2, 2, 1⟩
  | .ldHLN16 _ => ⟨.load, 3, 3, 0⟩
  | .ldAtHLIncA => ⟨.load, 1, 2, 0⟩
  | .incHL => ⟨.alu, 1, 2, 0⟩
  | .incH => ⟨.alu, 1, 1, 0⟩
  | .decH => ⟨.alu, 1, 1, 0⟩
  | .ldHN8 _ => ⟨.load, 2, 2, 0⟩
  | .daa => ⟨.alu, 1, 1, 0⟩
  | .jrZE8 _ => ⟨.control, 2, 2, 1⟩
  | .addHLHL => ⟨.alu, 1, 2, 0⟩
  | .ldAAtHLInc => ⟨.load, 1, 2, 0⟩
  | .decHL => ⟨.alu, 1, 2, 0⟩
  | .incL => ⟨.alu, 1, 1, 0⟩
  | .decL => ⟨.alu, 1, 1, 0⟩
  | .ldLN8 _ => ⟨.load, 2, 2, 0⟩
  | .cpl => ⟨.alu, 1, 1, 0⟩
  | .jrNCE8 _ => ⟨.control, 2, 2, 1⟩
  | .ldSPN16 _ => ⟨.load, 3, 3, 0⟩
  | .ldAtHLDecA => ⟨.load, 1, 2, 0⟩
  | .incSP => ⟨.alu, 1, 2, 0⟩
  | .incAtHL => ⟨.alu, 1, 3, 0⟩
  | .decAtHL => ⟨.alu, 1, 3, 0⟩
  | .ldAtHLN8 _ => ⟨.load, 2, 3, 0⟩
  | .scf => ⟨.alu, 1, 1, 0⟩
  | .jrCE8 _ => ⟨.control, 2, 2, 1⟩
  | .addHLSP => ⟨.alu, 1, 2, 0⟩
  | .ldAAtHLDec => ⟨.load, 1, 2, 0⟩
  | .decSP => ⟨.alu, 1, 2, 0⟩
  | .incA => ⟨.alu, 1, 1, 0⟩
  | .decA => ⟨.alu, 1, 1, 0⟩
  | .ldAN8 _ => ⟨.load, 2, 2, 0⟩
  | .ccf => ⟨.alu, 1, 1, 0⟩
  | .ldBB => ⟨.load, 1, 1, 0⟩
  | .ldBC => ⟨.load, 1, 1, 0⟩
  | .ldBD => ⟨.load, 1, 1, 0⟩
  | .ldBE => ⟨.load, 1, 1, 0⟩
  | .ldBH => ⟨.load, 1, 1, 0⟩
  | .ldBL => ⟨.load, 1, 1, 0⟩
  | .ldBAtHL => ⟨.load, 1, 2, 0⟩
  | .ldBA => ⟨.load, 1, 1, 0⟩
  | .ldCB => ⟨.load, 1, 1, 0⟩
  | .ldCC => ⟨.load, 1, 1, 0⟩
  | .ldCD => ⟨.load, 1, 1, 0⟩
  | .ldCE => ⟨.load, 1, 1, 0⟩
  | .ldCH => ⟨.load, 1, 1, 0⟩
  | .ldCL => ⟨.load, 1, 1, 0⟩
  | .ldCAtHL => ⟨.load, 1, 2, 0⟩
  | .ldCA => ⟨.load, 1, 1, 0⟩
  | .ldDB => ⟨.load, 1, 1, 0⟩
  | .ldDC => ⟨.load, 1, 1, 0⟩
  | .ldDD => ⟨.load, 1, 1, 0⟩
  | .ldDE => ⟨.load, 1, 1, 0⟩
  | .ldDH => ⟨.load, 1, 1, 0⟩
  | .ldDL => ⟨.load, 1, 1, 0⟩
  | .ldDAtHL => ⟨.load, 1, 2, 0⟩
  | .ldDA => ⟨.load, 1, 1, 0⟩
  | .ldEB => ⟨.load, 1, 1, 0⟩
  | .ldEC => ⟨.load, 1, 1, 0⟩
  | .ldED => ⟨.load, 1, 1, 0⟩
  | .ldEE => ⟨.load, 1, 1, 0⟩
  | .ldEH => ⟨.load, 1, 1, 0⟩
  | .ldEL => ⟨.load, 1, 1, 0⟩
  | .ldEAtHL => ⟨.load, 1, 2, 0⟩
  | .ldEA => ⟨.load, 1, 1, 0⟩
  | .ldHB => ⟨.load, 1, 1, 0⟩
  | .ldHC => ⟨.load, 1, 1, 0⟩
  | .ldHD => ⟨.load, 1, 1, 0⟩
  | .ldHE => ⟨.load, 1, 1, 0⟩
  | .ldHH => ⟨.load, 1, 1, 0⟩
  | .ldHL => ⟨.load, 1, 1, 0⟩
  | .ldHAtHL => ⟨.load, 1, 2, 0⟩
  | .ldHA => ⟨.load, 1, 1, 0⟩
  | .ldLB => ⟨.load, 1, 1, 0⟩
  | .ldLC => ⟨.load, 1, 1, 0⟩
  | .ldLD => ⟨.load, 1, 1, 0⟩
  | .ldLE => ⟨.load, 1, 1, 0⟩
  | .ldLH => ⟨.load, 1, 1, 0⟩
  | .ldLL => ⟨.load, 1, 1, 0⟩
  | .ldLAtHL => ⟨.load, 1, 2, 0⟩
  | .ldLA => ⟨.load, 1, 1, 0⟩
  | .ldAtHLB => ⟨.load, 1, 2, 0⟩
  | .ldAtHLC => ⟨.load, 1, 2, 0⟩
  | .ldAtHLD => ⟨.load, 1, 2, 0⟩
  | .ldAtHLE => ⟨.load, 1, 2, 0⟩
  | .ldAtHLH => ⟨.load, 1, 2, 0⟩
  | .ldAtHLL => ⟨.load, 1, 2, 0⟩
  | .halt => ⟨.control, 1, 1, 0⟩
  | .ldAtHLA => ⟨.load, 1, 2, 0⟩
  | .ldAB => ⟨.load, 1, 1, 0⟩
  | .ldAC => ⟨.load, 1, 1, 0⟩
  | .ldAD => ⟨.load, 1, 1, 0⟩
  | .ldAE => ⟨.load, 1, 1, 0⟩
  | .ldAH => ⟨.load, 1, 1, 0⟩
  | .ldAL => ⟨.load, 1, 1, 0⟩
  | .ldAAtHL => ⟨.load, 1, 2, 0⟩
  | .ldAA => ⟨.load, 1, 1, 0⟩
  | .addAB => ⟨.alu, 1, 1, 0⟩
  | .addAC => ⟨.alu, 1, 1, 0⟩
  | .addAD => ⟨.alu, 1, 1, 0⟩
  | .addAE => ⟨.alu, 1, 1, 0⟩
  | .addAH => ⟨.alu, 1, 1, 0⟩
  | .addAL => ⟨.alu, 1, 1, 0⟩
  | .addAAtHL => ⟨.alu, 1, 2, 0⟩
  | .addAA => ⟨.alu, 1, 1, 0⟩
  | .adcAB => ⟨.alu, 1, 1, 0⟩
  | .adcAC => ⟨.alu, 1, 1, 0⟩
  | .adcAD => ⟨.alu, 1, 1, 0⟩
  | .adcAE => ⟨.alu, 1, 1, 0⟩
  | .adcAH => ⟨.alu, 1, 1, 0⟩
  | .adcAL => ⟨.alu, 1, 1, 0⟩
  | .adcAAtHL => ⟨.alu, 1, 2, 0⟩
  | .adcAA => ⟨.alu, 1, 1, 0⟩
  | .subB => ⟨.alu, 1, 1, 0⟩
  | .subC => ⟨.alu, 1, 1, 0⟩
  | .subD => ⟨.alu, 1, 1, 0⟩
  | .subE => ⟨.alu, 1, 1, 0⟩
  | .subH => ⟨.alu, 1, 1, 0⟩
  | .subL => ⟨.alu, 1, 1, 0⟩
  | .subAtHL => ⟨.alu, 1, 2, 0⟩
  | .subA => ⟨.alu, 1, 1, 0⟩
  | .sbcAB => ⟨.alu, 1, 1, 0⟩
  | .sbcAC => ⟨.alu, 1, 1, 0⟩
  | .sbcAD => ⟨.alu, 1, 1, 0⟩
  | .sbcAE => ⟨.alu, 1, 1, 0⟩
  | .sbcAH => ⟨.alu, 1, 1, 0⟩
  | .sbcAL => ⟨.alu, 1, 1, 0⟩
  | .sbcAAtHL => ⟨.alu, 1, 2, 0⟩
  | .sbcAA => ⟨.alu, 1, 1, 0⟩
  | .andB => ⟨.alu, 1, 1, 0⟩
  | .andC => ⟨.alu, 1, 1, 0⟩
  | .andD => ⟨.alu, 1, 1, 0⟩
  | .andE => ⟨.alu, 1, 1, 0⟩
  | .andH => ⟨.alu, 1, 1, 0⟩
  | .andL => ⟨.alu, 1, 1, 0⟩
  | .andAtHL => ⟨.alu, 1, 2, 0⟩
  | .andA => ⟨.alu, 1, 1, 0⟩
  | .xorB => ⟨.alu, 1, 1, 0⟩
  | .xorC => ⟨.alu, 1, 1, 0⟩
  | .xorD => ⟨.alu, 1, 1, 0⟩
  | .xorE => ⟨.alu, 1, 1, 0⟩
  | .xorH => ⟨.alu, 1, 1, 0⟩
  | .xorL => ⟨.alu, 1, 1, 0⟩
  | .xorAtHL => ⟨.alu, 1, 2, 0⟩
  | .xorA => ⟨.alu, 1, 1, 0⟩
  | .orB => ⟨.alu, 1, 1, 0⟩
  | .orC => ⟨.alu, 1, 1, 0⟩
  | .orD => ⟨.alu, 1, 1, 0⟩
  | .orE => ⟨.alu, 1, 1, 0⟩
  | .orH => ⟨.alu, 1, 1, 0⟩
  | .orL => ⟨.alu, 1, 1, 0⟩
  | .orAtHL => ⟨.alu, 1, 2, 0⟩
  | .orA => ⟨.alu, 1, 1, 0⟩
  | .cpB => ⟨.alu, 1, 1, 0⟩
  | .cpC => ⟨.alu, 1, 1, 0⟩
  | .cpD => ⟨.alu, 1, 1, 0⟩
  | .cpE => ⟨.alu, 1, 1, 0⟩
  | .cpH => ⟨.alu, 1, 1, 0⟩
  | .cpL => ⟨.alu, 1, 1, 0⟩
  | .cpAtHL => ⟨.alu, 1, 2, 0⟩
  | .cpA => ⟨.alu, 1, 1, 0⟩
  | .retNZ => ⟨.control, 1, 2, 3⟩
  | .popBC => ⟨.load, 1, 3, 0⟩
  | .jpNZA16 _ => ⟨.control, 3, 3, 1⟩
  | .jpA16 _ => ⟨.control, 3, 4, 0⟩
  | .callNZA16 _ => ⟨.control, 3, 3, 3⟩
  | .pushBC => ⟨.load, 1, 4, 0⟩
  | .addAN8 _ => ⟨.alu, 2, 2, 0⟩
  | .rst00 => ⟨.control, 1, 4, 0⟩
  | .retZ => ⟨.control, 1, 2, 3⟩
  | .ret => ⟨.control, 1, 4, 0⟩
  | .jpZA16 _ => ⟨.control, 3, 3, 1⟩
  | .callZA16 _ => ⟨.control, 3, 3, 3⟩
  | .callA16 _ => ⟨.control, 3, 6, 0⟩
  | .adcAN8 _ => ⟨.alu, 2, 2, 0⟩
  | .rst08 => ⟨.control, 1, 4, 0⟩
  | .retNC => ⟨.control, 1, 2, 3⟩
  | .popDE => ⟨.load, 1, 3, 0⟩
  | .jpNCA16 _ => ⟨.control, 3, 3, 1⟩
  | .callNCA16 _ => ⟨.control, 3, 3, 3⟩
  | .pushDE => ⟨.load, 1, 4, 0⟩
  | .subN8 _ => ⟨.alu, 2, 2, 0⟩
  | .rst10 => ⟨.control, 1, 4, 0⟩
  | .retC => ⟨.control, 1, 2, 3⟩
  | .reti => ⟨.control, 1, 4, 0⟩
  | .jpCA16 _ => ⟨.control, 3, 3, 1⟩
  | .callCA16 _ => ⟨.control, 3, 3, 3⟩
  | .sbcAN8 _ => ⟨.alu, 2, 2, 0⟩
  | .rst18 => ⟨.control, 1, 4, 0⟩
  | .ldhAtA8A _ => ⟨.load, 2, 3, 0⟩
  | .popHL => ⟨.load, 1, 3, 0⟩
  | .ldAtCA => ⟨.load, 1, 2, 0⟩
  | .pushHL => ⟨.load, 1, 4, 0⟩
  | .andN8 _ => ⟨.alu, 2, 2, 0⟩
  | .rst20 => ⟨.control, 1, 4, 0⟩
  | .addSPE8 _ => ⟨.alu, 2, 4, 0⟩
  | .jpHL => ⟨.control, 1, 1, 0⟩
  | .ldAtA16A _ => ⟨.load, 3, 4, 0⟩
  | .xorN8 _ => ⟨.alu, 2, 2, 0⟩
  | .rst28 => ⟨.control, 1, 4, 0⟩
  | .ldhAAtA8 _ => ⟨.load, 2, 3, 0⟩
  | .popAF => ⟨.load, 1, 3, 0⟩
  | .ldAAtC => ⟨.load, 1, 2, 0⟩
  | .di => ⟨.control, 1, 1, 0⟩
  | .pushAF => ⟨.load, 1, 4, 0⟩
  | .orN8 _ => ⟨.alu, 2, 2, 0⟩
  | .rst30 => ⟨.control, 1, 4, 0⟩
  | .ldHLSPE8 _ => ⟨.alu, 2, 3, 0⟩
  | .ldSPHL => ⟨.load, 1, 2, 0⟩
  | .ldAAtA16 _ => ⟨.load, 3, 4, 0⟩
  | .ei => ⟨.control, 1, 1, 0⟩
  | .cpN8 _ => ⟨.alu, 2, 2, 0⟩
  | .rst38 => ⟨.control, 1, 4, 0⟩
  | .rlcB => ⟨.alu, 2, 2, 0⟩
  | .rlcC => ⟨.alu, 2, 2, 0⟩
  | .rlcD => ⟨.alu, 2, 2, 0⟩
  | .rlcE => ⟨.alu, 2, 2, 0⟩
  | .rlcH => ⟨.alu, 2, 2, 0⟩
  | .rlcL => ⟨.alu, 2, 2, 0⟩
  | .rlcAtHL => ⟨.alu, 2, 4, 0⟩
  | .rlcA => ⟨.alu, 2, 2, 0⟩
  | .rrcB => ⟨.alu, 2, 2, 0⟩
  | .rrcC => ⟨.alu, 2, 2, 0⟩
  | .rrcD => ⟨.alu, 2, 2, 0⟩
  | .rrcE => ⟨.alu, 2, 2, 0⟩
  | .rrcH => ⟨.alu, 2, 2, 0⟩
  | .rrcL => ⟨.alu, 2, 2, 0⟩
  | .rrcAtHL => ⟨.alu, 2, 4, 0⟩
  | .rrcA => ⟨.alu, 2, 2, 0⟩
  | .rlB => ⟨.alu, 2, 2, 0⟩
  | .rlC => ⟨.alu, 2, 2, 0⟩
  | .rlD => ⟨.alu, 2, 2, 0⟩
  | .rlE => ⟨.alu, 2, 2, 0⟩
  | .rlH => ⟨.alu, 2, 2, 0⟩
  | .rlL => ⟨.alu, 2, 2, 0⟩
  | .rlAtHL => ⟨.alu, 2, 4, 0⟩
  | .rlA => ⟨.alu, 2, 2, 0⟩
  | .rrB => ⟨.alu, 2, 2, 0⟩
  | .rrC => ⟨.alu, 2, 2, 0⟩
  | .rrD => ⟨.alu, 2, 2, 0⟩
  | .rrE => ⟨.alu, 2, 2, 0⟩
  | .rrH => ⟨.alu, 2, 2, 0⟩
  | .rrL => ⟨.alu, 2, 2, 0⟩
  | .rrAtHL => ⟨.alu, 2, 4, 0⟩
  | .rrA => ⟨.alu, 2, 2, 0⟩
  | .slaB => ⟨.alu, 2, 2, 0⟩
  | .slaC => ⟨.alu, 2, 2, 0⟩
  | .slaD => ⟨.alu, 2, 2, 0⟩
  | .slaE => ⟨.alu, 2, 2, 0⟩
  | .slaH => ⟨.alu, 2, 2, 0⟩
  | .slaL => ⟨.alu, 2, 2, 0⟩
  | .slaAtHL => ⟨.alu, 2, 4, 0⟩
  | .slaA => ⟨.alu, 2, 2, 0⟩
  | .sraB => ⟨.alu, 2, 2, 0⟩
  | .sraC => ⟨.alu, 2, 2, 0⟩
  | .sraD => ⟨.alu, 2, 2, 0⟩
  | .sraE => ⟨.alu, 2, 2, 0⟩
  | .sraH => ⟨.alu, 2, 2, 0⟩
  | .sraL => ⟨.alu, 2, 2, 0⟩
  | .sraAtHL => ⟨.alu, 2, 4, 0⟩
  | .sraA => ⟨.alu, 2, 2, 0⟩
  | .swapB => ⟨.alu, 2, 2, 0⟩
  | .swapC => ⟨.alu, 2, 2, 0⟩
  | .swapD => ⟨.alu, 2, 2, 0⟩
  | .swapE => ⟨.alu, 2, 2, 0⟩
  | .swapH => ⟨.alu, 2, 2, 0⟩
  | .swapL => ⟨.alu, 2, 2, 0⟩
  | .swapAtHL => ⟨.alu, 2, 4, 0⟩
  | .swapA => ⟨.alu, 2, 2, 0⟩
  | .srlB => ⟨.alu, 2, 2, 0⟩
  | .srlC => ⟨.alu, 2, 2, 0⟩
  | .srlD => ⟨.alu, 2, 2, 0⟩
  | .srlE => ⟨.alu, 2, 2, 0⟩
  | .srlH => ⟨.alu, 2, 2, 0⟩
  | .srlL => ⟨.alu, 2, 2, 0⟩
  | .srlAtHL => ⟨.alu, 2, 4, 0⟩
  | .srlA => ⟨.alu, 2, 2, 0⟩
  | .bit0B => ⟨.alu, 2, 2, 0⟩
  | .bit0C => ⟨.alu, 2, 2, 0⟩
  | .bit0D => ⟨.alu, 2, 2, 0⟩
  | .bit0E => ⟨.alu, 2, 2, 0⟩
  | .bit0H => ⟨.alu, 2, 2, 0⟩
  | .bit0L => ⟨.alu, 2, 2, 0⟩
  | .bit0AtHL => ⟨.alu, 2, 3, 0⟩
  | .bit0A => ⟨.alu, 2, 2, 0⟩
  | .bit1B => ⟨.alu, 2, 2, 0⟩
  | .bit1C => ⟨.alu, 2, 2, 0⟩
  | .bit1D => ⟨.alu, 2, 2, 0⟩
  | .bit1E => ⟨.alu, 2, 2, 0⟩
  | .bit1H => ⟨.alu, 2, 2, 0⟩
  | .bit1L => ⟨.alu, 2, 2, 0⟩
  | .bit1AtHL => ⟨.alu, 2, 3, 0⟩
  | .bit1A => ⟨.alu, 2, 2, 0⟩
  | .bit2B => ⟨.alu, 2, 2, 0⟩
  | .bit2C => ⟨.alu, 2, 2, 0⟩
  | .bit2D => ⟨.alu, 2, 2, 0⟩
  | .bit2E => ⟨.alu, 2, 2, 0⟩
  | .bit2H => ⟨.alu, 2, 2, 0⟩
  | .bit2L => ⟨.alu, 2, 2, 0⟩
  | .bit2AtHL => ⟨.alu, 2, 3, 0⟩
  | .bit2A => ⟨.alu, 2, 2, 0⟩
  | .bit3B => ⟨.alu, 2, 2, 0⟩
  | .bit3C => ⟨.alu, 2, 2, 0⟩
  | .bit3D => ⟨.alu, 2, 2, 0⟩
  | .bit3E => ⟨.alu, 2, 2, 0⟩
  | .bit3H => ⟨.alu, 2, 2, 0⟩
  | .bit3L => ⟨.alu, 2, 2, 0⟩
  | .bit3AtHL => ⟨.alu, 2, 3, 0⟩
  | .bit3A => ⟨.alu, 2, 2, 0⟩
  | .bit4B => ⟨.alu, 2, 2, 0⟩
  | .bit4C => ⟨.alu, 2, 2, 0⟩
  | .bit4D => ⟨.alu, 2, 2, 0⟩
  | .bit4E => ⟨.alu, 2, 2, 0⟩
  | .bit4H => ⟨.alu, 2, 2, 0⟩
  | .bit4L => ⟨.alu, 2, 2, 0⟩
  | .bit4AtHL => ⟨.alu, 2, 3, 0⟩
  | .bit4A => ⟨.alu, 2, 2, 0⟩
  | .bit5B => ⟨.alu, 2, 2, 0⟩
  | .bit5C => ⟨.alu, 2, 2, 0⟩
  | .bit5D => ⟨.alu, 2, 2, 0⟩
  | .bit5E => ⟨.alu, 2, 2, 0⟩
  | .bit5H => ⟨.alu, 2, 2, 0⟩
  | .bit5L => ⟨.alu, 2, 2, 0⟩
  | .bit5AtHL => ⟨.alu, 2, 3, 0⟩
  | .bit5A => ⟨.alu, 2, 2, 0⟩
  | .bit6B => ⟨.alu, 2, 2, 0⟩
  | .bit6C => ⟨.alu, 2, 2, 0⟩
  | .bit6D => ⟨.alu, 2, 2, 0⟩
  | .bit6E => ⟨.alu, 2, 2, 0⟩
  | .bit6H => ⟨.alu, 2, 2, 0⟩
  | .bit6L => ⟨.alu, 2, 2, 0⟩
  | .bit6AtHL => ⟨.alu, 2, 3, 0⟩
  | .bit6A => ⟨.alu, 2, 2, 0⟩
  | .bit7B => ⟨.alu, 2, 2, 0⟩
  | .bit7C => ⟨.alu, 2, 2, 0⟩
  | .bit7D => ⟨.alu, 2, 2, 0⟩
  | .bit7E => ⟨.alu, 2, 2, 0⟩
  | .bit7H => ⟨.alu, 2, 2, 0⟩
  | .bit7L => ⟨.alu, 2, 2, 0⟩
  | .bit7AtHL => ⟨.alu, 2, 3, 0⟩
  | .bit7A => ⟨.alu, 2, 2, 0⟩
  | .res0B => ⟨.alu, 2, 2, 0⟩
  | .res0C => ⟨.alu, 2, 2, 0⟩
  | .res0D => ⟨.alu, 2, 2, 0⟩
  | .res0E => ⟨.alu, 2, 2, 0⟩
  | .res0H => ⟨.alu, 2, 2, 0⟩
  | .res0L => ⟨.alu, 2, 2, 0⟩
  | .res0AtHL => ⟨.alu, 2, 4, 0⟩
  | .res0A => ⟨.alu, 2, 2, 0⟩
  | .res1B => ⟨.alu, 2, 2, 0⟩
  | .res1C => ⟨.alu, 2, 2, 0⟩
  | .res1D => ⟨.alu, 2, 2, 0⟩
  | .res1E => ⟨.alu, 2, 2, 0⟩
  | .res1H => ⟨.alu, 2, 2, 0⟩
  | .res1L => ⟨.alu, 2, 2, 0⟩
  | .res1AtHL => ⟨.alu, 2, 4, 0⟩
  | .res1A => ⟨.alu, 2, 2, 0⟩
  | .res2B => ⟨.alu, 2, 2, 0⟩
  | .res2C => ⟨.alu, 2, 2, 0⟩
  | .res2D => ⟨.alu, 2, 2, 0⟩
  | .res2E => ⟨.alu, 2, 2, 0⟩
  | .res2H => ⟨.alu, 2, 2, 0⟩
  | .res2L => ⟨.alu, 2, 2, 0⟩
  | .res2AtHL => ⟨.alu, 2, 4, 0⟩
  | .res2A => ⟨.alu, 2, 2, 0⟩
  | .res3B => ⟨.alu, 2, 2, 0⟩
  | .res3C => ⟨.alu, 2, 2, 0⟩
  | .res3D => ⟨.alu, 2, 2, 0⟩
  | .res3E => ⟨.alu, 2, 2, 0⟩
  | .res3H => ⟨.alu, 2, 2, 0⟩
  | .res3L => ⟨.alu, 2, 2, 0⟩
  | .res3AtHL => ⟨.alu, 2, 4, 0⟩
  | .res3A => ⟨.alu, 2, 2, 0⟩
  | .res4B => ⟨.alu, 2, 2, 0⟩
  | .res4C => ⟨.alu, 2, 2, 0⟩
  | .res4D => ⟨.alu, 2, 2, 0⟩
  | .res4E => ⟨.alu, 2, 2, 0⟩
  | .res4H => ⟨.alu, 2, 2, 0⟩
  | .res4L => ⟨.alu, 2, 2, 0⟩
  | .res4AtHL => ⟨.alu, 2, 4, 0⟩
  | .res4A => ⟨.alu, 2, 2, 0⟩
  | .res5B => ⟨.alu, 2, 2, 0⟩
  | .res5C => ⟨.alu, 2, 2, 0⟩
  | .res5D => ⟨.alu, 2, 2, 0⟩
  | .res5E => ⟨.alu, 2, 2, 0⟩
  | .res5H => ⟨.alu, 2, 2, 0⟩
  | .res5L => ⟨.alu, 2, 2, 0⟩
  | .res5AtHL => ⟨.alu, 2, 4, 0⟩
  | .res5A => ⟨.alu, 2, 2, 0⟩
  | .res6B => ⟨.alu, 2, 2, 0⟩
  | .res6C => ⟨.alu, 2, 2, 0⟩
  | .res6D => ⟨.alu, 2, 2, 0⟩
  | .res6E => ⟨.alu, 2, 2, 0⟩
  | .res6H => ⟨.alu, 2, 2, 0⟩
  | .res6L => ⟨.alu, 2, 2, 0⟩
  | .res6AtHL => ⟨.alu, 2, 4, 0⟩
  | .res6A => ⟨.alu, 2, 2, 0⟩
  | .res7B => ⟨.alu, 2, 2, 0⟩
  | .res7C => ⟨.alu, 2, 2, 0⟩
  | .res7D => ⟨.alu, 2, 2, 0⟩
  | .res7E => ⟨.alu, 2, 2, 0⟩
  | .res7H => ⟨.alu, 2, 2, 0⟩
  | .res7L => ⟨.alu, 2, 2, 0⟩
  | .res7AtHL => ⟨.alu, 2, 4, 0⟩
  | .res7A => ⟨.alu, 2, 2, 0⟩
  | .set0B => ⟨.alu, 2, 2, 0⟩
  | .set0C => ⟨.alu, 2, 2, 0⟩
  | .set0D => ⟨.alu, 2, 2, 0⟩
  | .set0E => ⟨.alu, 2, 2, 0⟩
  | .set0H => ⟨.alu, 2, 2, 0⟩
  | .set0L => ⟨.alu, 2, 2, 0⟩
  | .set0AtHL => ⟨.alu, 2, 4, 0⟩
  | .set0A => ⟨.alu, 2, 2, 0⟩
  | .set1B => ⟨.alu, 2, 2, 0⟩
  | .set1C => ⟨.alu, 2, 2, 0⟩
  | .set1D => ⟨.alu, 2, 2, 0⟩
  | .set1E => ⟨.alu, 2, 2, 0⟩
  | .set1H => ⟨.alu, 2, 2, 0⟩
  | .set1L => ⟨.alu, 2, 2, 0⟩
  | .set1AtHL => ⟨.alu, 2, 4, 0⟩
  | .set1A => ⟨.alu, 2, 2, 0⟩
  | .set2B => ⟨.alu, 2, 2, 0⟩
  | .set2C => ⟨.alu, 2, 2, 0⟩
  | .set2D => ⟨.alu, 2, 2, 0⟩
  | .set2E => ⟨.alu, 2, 2, 0⟩
  | .set2H => ⟨.alu, 2, 2, 0⟩
  | .set2L => ⟨.alu, 2, 2, 0⟩
  | .set2AtHL => ⟨.alu, 2, 4, 0⟩
  | .set2A => ⟨.alu, 2, 2, 0⟩
  | .set3B => ⟨.alu, 2, 2, 0⟩
  | .set3C => ⟨.alu, 2, 2, 0⟩
  | .set3D => ⟨.alu, 2, 2, 0⟩
  | .set3E => ⟨.alu, 2, 2, 0⟩
  | .set3H => ⟨.alu, 2, 2, 0⟩
  | .set3L => ⟨.alu, 2, 2, 0⟩
  | .set3AtHL => ⟨.alu, 2, 4, 0⟩
  | .set3A => ⟨.alu, 2, 2, 0⟩
  | .set4B => ⟨.alu, 2, 2, 0⟩
  | .set4C => ⟨.alu, 2, 2, 0⟩
  | .set4D => ⟨.alu, 2, 2, 0⟩
  | .set4E => ⟨.alu, 2, 2, 0⟩
  | .set4H => ⟨.alu, 2, 2, 0⟩
  | .set4L => ⟨.alu, 2, 2, 0⟩
  | .set4AtHL => ⟨.alu, 2, 4, 0⟩
  | .set4A => ⟨.alu, 2, 2, 0⟩
  | .set5B => ⟨.alu, 2, 2, 0⟩
  | .set5C => ⟨.alu, 2, 2, 0⟩
  | .set5D => ⟨.alu, 2, 2, 0⟩
  | .set5E => ⟨.alu, 2, 2, 0⟩
  | .set5H => ⟨.alu, 2, 2, 0⟩
  | .set5L => ⟨.alu, 2, 2, 0⟩
  | .set5AtHL => ⟨.alu, 2, 4, 0⟩
  | .set5A => ⟨.alu, 2, 2, 0⟩
  | .set6B => ⟨.alu, 2, 2, 0⟩
  | .set6C => ⟨.alu, 2, 2, 0⟩
  | .set6D => ⟨.alu, 2, 2, 0⟩
  | .set6E => ⟨.alu, 2, 2, 0⟩
  | .set6H => ⟨.alu, 2, 2, 0⟩
  | .set6L => ⟨.alu, 2, 2, 0⟩
  | .set6AtHL => ⟨.alu, 2, 4, 0⟩
  | .set6A => ⟨.alu, 2, 2, 0⟩
  | .set7B => ⟨.alu, 2, 2, 0⟩
  | .set7C => ⟨.alu, 2, 2, 0⟩
  | .set7D => ⟨.alu, 2, 2, 0⟩
  | .set7E => ⟨.alu, 2, 2, 0⟩
  | .set7H => ⟨.alu, 2, 2, 0⟩
  | .set7L => ⟨.alu, 2, 2, 0⟩
  | .set7AtHL => ⟨.alu, 2, 4, 0⟩
  | .set7A => ⟨.alu, 2, 2, 0⟩

end Sys2Proof
end

