-- ==== Sys2Proof/Safety.lean ====
section
/-! DEFINITION. What counts as a good state and a safe step: the terms the statements use. -/

namespace Sys2Proof.Machine

/-- The blocks lie one after the other in the store from `base` on, each with a size above 0 (R47, R66). -/
def blocksLaid : Nat → List Block → Bool
  | _, [] => true
  | base, b :: bs => b.id == base && decide (0 < b.size) && blocksLaid (base + b.size) bs

/-- R69: "a mapped range's cells always point within the bounds of the backing block". -/
def segmentInBounds (bs : List Block) (g : Segment) : Bool :=
  match g.target with
  | .mem id offset =>
    decide (g.first.toNat ≤ g.last.toNat) &&
      decide (offset + (g.last.toNat - g.first.toNat + 1) ≤ blockSize bs id)
  | _ => true

/-- Every listed byte of the store lies in a block: the blocks are all the memory there is (R47). -/
def bytesInBlocks (bs : List Block) (m : List Host.Cell) : Bool := m.all fun c => decide (c.1 < storeSize bs)

/-- The invariant of the machine: the store is in canonical form and inside the blocks, the cell map points inside its blocks, `idle`
never exceeds what one dispatch adds (R40, R311), and a halted CPU is not idling (R313). -/
structure State.Inv (s : State) : Prop where
  memory : Memory.wf s.mem = true
  inBlocks : bytesInBlocks s.blocks s.mem = true
  laid : blocksLaid 0 s.blocks = true
  inBounds : s.cells.all (segmentInBounds s.blocks) = true
  idle : s.idle ≤ max 5 s.params.intServiceCycles
  halted : s.halt = true → s.idle = 0

/-- A step is safe when it ends in a next state. -/
def State.SafeStep (s : State) : Prop := ∃ t, step s = .next t

/-- The CPU dispatches an instruction in this cycle: no idle cycle is left, and no enabled interrupt is pending with IME set; if it is
halted, something is pending that wakes it (R311, R313). -/
def State.dispatches (s : State) : Prop :=
  s.idle = 0 ∧ (s.halt = true → s.pending ≠ none) ∧ (s.ime = true → s.pending = none)

/-- The addresses an instruction stores a byte to in a state, in the order it stores them (the rules of spec files 41 to 45): none for a form
that stores nothing, and none for a call whose condition does not hold. A word goes to an address and the next (R79). -/
def storedAddresses (i : Instr) (s : State) : List Word :=
  match i with
  | .incAtHL => [s.hl]
  | .decAtHL => [s.hl]
  | .rlcAtHL => [s.hl]
  | .rrcAtHL => [s.hl]
  | .rlAtHL => [s.hl]
  | .rrAtHL => [s.hl]
  | .slaAtHL => [s.hl]
  | .sraAtHL => [s.hl]
  | .swapAtHL => [s.hl]
  | .srlAtHL => [s.hl]
  | .res0AtHL => [s.hl]
  | .res1AtHL => [s.hl]
  | .res2AtHL => [s.hl]
  | .res3AtHL => [s.hl]
  | .res4AtHL => [s.hl]
  | .res5AtHL => [s.hl]
  | .res6AtHL => [s.hl]
  | .res7AtHL => [s.hl]
  | .set0AtHL => [s.hl]
  | .set1AtHL => [s.hl]
  | .set2AtHL => [s.hl]
  | .set3AtHL => [s.hl]
  | .set4AtHL => [s.hl]
  | .set5AtHL => [s.hl]
  | .set6AtHL => [s.hl]
  | .set7AtHL => [s.hl]
  | .ldAtHLB => [s.hl]
  | .ldAtHLC => [s.hl]
  | .ldAtHLD => [s.hl]
  | .ldAtHLE => [s.hl]
  | .ldAtHLH => [s.hl]
  | .ldAtHLL => [s.hl]
  | .ldAtHLA => [s.hl]
  | .ldAtHLN8 _ => [s.hl]
  | .ldAtBCA => [s.bc]
  | .ldAtDEA => [s.de]
  | .ldAtHLIncA => [s.hl]
  | .ldAtHLDecA => [s.hl]
  | .ldhAtA8A a8 => [windowAddr a8]
  | .ldAtCA => [windowAddr s.regs.c]
  | .ldAtA16A a16 => [a16]
  | .ldAtA16SP a16 => [a16, a16 + 1]
  | .pushBC => [pushSp s.sp, pushSp s.sp + 1]
  | .pushDE => [pushSp s.sp, pushSp s.sp + 1]
  | .pushHL => [pushSp s.sp, pushSp s.sp + 1]
  | .pushAF => [pushSp s.sp, pushSp s.sp + 1]
  | .callA16 _ => [pushSp s.sp, pushSp s.sp + 1]
  | .callNZA16 _ => if condHolds .nz s.regs.f then [pushSp s.sp, pushSp s.sp + 1] else []
  | .callZA16 _ => if condHolds .z s.regs.f then [pushSp s.sp, pushSp s.sp + 1] else []
  | .callNCA16 _ => if condHolds .nc s.regs.f then [pushSp s.sp, pushSp s.sp + 1] else []
  | .callCA16 _ => if condHolds .c s.regs.f then [pushSp s.sp, pushSp s.sp + 1] else []
  | .rst00 => [pushSp s.sp, pushSp s.sp + 1]
  | .rst08 => [pushSp s.sp, pushSp s.sp + 1]
  | .rst10 => [pushSp s.sp, pushSp s.sp + 1]
  | .rst18 => [pushSp s.sp, pushSp s.sp + 1]
  | .rst20 => [pushSp s.sp, pushSp s.sp + 1]
  | .rst28 => [pushSp s.sp, pushSp s.sp + 1]
  | .rst30 => [pushSp s.sp, pushSp s.sp + 1]
  | .rst38 => [pushSp s.sp, pushSp s.sp + 1]
  | _ => []

/-- The first address an instruction would store to that is unmapped (R342). -/
def firstUnmapped (i : Instr) (s : State) : Option Word :=
  (storedAddresses i s).find? fun a => decide (s.place a = .unmapped)

end Sys2Proof.Machine
end

