-- ==== Sys2Proof/Certificates/Slice0/Obligations.lean ====
section
/-! DEFINITION. The statements for the provers, and the terms they share. The opcode bytes, lengths, costs and flag choices of every
instruction are the spec's own decision D1 (log entry 1); a statement that rests on them, or on another decision of
spec/92_eei_decisions.md, has basis "derived". -/

namespace Sys2Proof.Terms

open Sys2Proof.Machine

/-- `t` is `s` after the byte `v` has been stored at `a`: `v` at every address whose cell is that of `a`, the old byte at every other
address and in every other byte of every block, and IE and IF written only through their cells (R64, R75). -/
def StoredByte (s t : State) (a : Word) (v : Byte) : Prop :=
  (∀ b, busRead t b = if s.place b = s.place a then v else busRead s b) ∧
  (∀ k, Memory.read t.mem k = if s.place a = .mem k then v else Memory.read s.mem k) ∧
  t.ie = (if s.place a = .ieReg then v else s.ie) ∧
  t.iflag = (if s.place a = .ifReg then v else s.iflag)

/-- `t` is `s` after the word `v` has been stored at `a`: the low byte at `a`, then the high byte at `a + 1`, and nothing else (R79). -/
def StoredWord (s t : State) (a v : Word) : Prop :=
  (∀ b, busRead t b =
    if s.place b = s.place (a + 1) then v.extractLsb' 8 8
    else if s.place b = s.place a then v.extractLsb' 0 8 else busRead s b) ∧
  (∀ k, Memory.read t.mem k =
    if s.place (a + 1) = .mem k then v.extractLsb' 8 8
    else if s.place a = .mem k then v.extractLsb' 0 8 else Memory.read s.mem k) ∧
  t.ie = (if s.place (a + 1) = .ieReg then v.extractLsb' 8 8
    else if s.place a = .ieReg then v.extractLsb' 0 8 else s.ie) ∧
  t.iflag = (if s.place (a + 1) = .ifReg then v.extractLsb' 8 8
    else if s.place a = .ifReg then v.extractLsb' 0 8 else s.iflag)

/-- `t` is `u` but for `last_write`, now `a`, and what a store reaches: the store, IE and IF. -/
def SameButStore (u t : State) (a : Word) : Prop :=
  t = { u with lastWrite := a, mem := t.mem, ie := t.ie, iflag := t.iflag }

/-- A run of an instruction that stores the byte `v` at `a` and otherwise leaves the state `u`. -/
def RunsStoringByte (i : Instr) (s : State) (a : Word) (v : Byte) (u : State) : Prop :=
  ∃ t, exec i s = .next t ∧ StoredByte s t a v ∧ SameButStore u t a

/-- A run of an instruction that stores the word `v` at `a` and otherwise leaves the state `u`. -/
def RunsStoringWord (i : Instr) (s : State) (a v : Word) (u : State) : Prop :=
  ∃ t, exec i s = .next t ∧ StoredWord s t a v ∧ SameButStore u t a

/-- A bit as a number. -/
def bit (b : Bool) : Nat := if b then 1 else 0

/-- After an addition to A: A is the sum modulo 256, Z iff it is 0, N clear, H and C the carries out of bits 3 and 7; the result is also in
`scratch`. -/
def afterAdd (s : State) (y : Byte) (cin : Bool) (len : Word) (more : Nat) : State :=
  let x := s.regs.a.toNat
  let sum := x + y.toNat + bit cin
  let f : Flags :=
    { z := decide (sum % 256 = 0), n := false, h := decide (x % 16 + y.toNat % 16 + bit cin > 15), c := decide (sum > 255) }
  { s with
    regs.a := BitVec.ofNat 8 sum
    regs.f := f
    scratch := { value := BitVec.ofNat 16 (sum % 256), flags := f }
    pc := s.pc + len
    idle := s.idle + more }

/-- After a subtraction from A whose result is kept iff `keep`: the difference modulo 256, Z iff it is 0, N set, H and C the borrows into
bit 4 and out of bit 7. -/
def afterSub (s : State) (y : Byte) (bin keep : Bool) (len : Word) (more : Nat) : State :=
  let x := s.regs.a.toNat
  let diff := (x + 256 - (y.toNat + bit bin)) % 256
  let f : Flags :=
    { z := decide (diff = 0), n := true, h := decide (x % 16 < y.toNat % 16 + bit bin), c := decide (x < y.toNat + bit bin) }
  { s with
    regs.a := if keep then BitVec.ofNat 8 diff else s.regs.a
    regs.f := f
    scratch := { value := BitVec.ofNat 16 diff, flags := f }
    pc := s.pc + len
    idle := s.idle + more }

/-- After a logic operation: A is `v`, Z iff it is 0, N and C clear, H as given. -/
def afterLogic (s : State) (v : Byte) (h : Bool) (len : Word) (more : Nat) : State :=
  { s with
    regs.a := v
    regs.f := { z := decide (v = 0), n := false, h := h, c := false }
    scratch := { value := v.setWidth 16, flags := { z := decide (v = 0), n := false, h := false, c := false } }
    pc := s.pc + len
    idle := s.idle + more }

/-- The extra machine cycle of a form that reads the byte at HL. -/
def memCycle (o : Operand8) (n : Nat) : Nat := if o = .atHL then n else 0

/-- The flags of INC on an old byte `v` (R178): C is kept. -/
def incFlags (v : Byte) (c : Bool) : Flags :=
  { z := decide (v = 0xFF), n := false, h := decide (v.toNat % 16 = 15), c := c }

/-- The flags of DEC on an old byte `v` (R179): C is kept. -/
def decFlags (v : Byte) (c : Bool) : Flags :=
  { z := decide (v = 1), n := true, h := decide (v.toNat % 16 = 0), c := c }

/-- The value of a rotate or shift of `v` with the old carry `c` (R214 to R221). -/
def shifted (op : ShiftOp) (v : Byte) (c : Bool) : Byte :=
  match op with
  | .rlc => v.rotateLeft 1
  | .rrc => v.rotateRight 1
  | .rl => BitVec.ofNat 8 (2 * v.toNat + bit c)
  | .rr => BitVec.ofNat 8 (v.toNat / 2 + 128 * bit c)
  | .sla => BitVec.ofNat 8 (2 * v.toNat)
  | .sra => v.sshiftRight 1
  | .swap => BitVec.ofNat 8 (16 * (v.toNat % 16) + v.toNat / 16)
  | .srl => BitVec.ofNat 8 (v.toNat / 2)

/-- The bit that leaves the byte, false for SWAP (R214 to R221). -/
def shiftedOut (op : ShiftOp) (v : Byte) : Bool :=
  match op with
  | .rlc | .rl | .sla => v.getLsbD 7
  | .rrc | .rr | .sra | .srl => v.getLsbD 0
  | .swap => false

/-- The flags of an extended rotate or shift: Z from the value, C the bit that left. -/
def shiftedFlags (op : ShiftOp) (v : Byte) (c : Bool) : Flags :=
  { z := decide (shifted op v c = 0), n := false, h := false, c := shiftedOut op v }

/-- A byte with bit `b` cleared. -/
def withoutBit (v : Byte) (b : Fin 8) : Byte := v &&& ~~~(1#8 <<< b.val)

/-- A byte with bit `b` set. -/
def withBit (v : Byte) (b : Fin 8) : Byte := v ||| (1#8 <<< b.val)

/-- The word at an address, low byte first, the second address wrapping (R77). -/
def wordAt (s : State) (a : Word) : Word := busRead s (a + 1) ++ busRead s a

/-- Where a push stores: two below SP, or at SP itself when SP is below 2 (R241, decision D16, log entry 6). -/
def pushAt (s : State) : Word := if s.sp.toNat < 2 then s.sp else s.sp - 2

/-- What the push of a call writes lies on neither operand byte of the instruction at `pc`. -/
def PushOffOperand (s : State) : Prop :=
  ∀ a ∈ [s.pc + 1, s.pc + 2], s.place a ≠ s.place (pushAt s) ∧ s.place a ≠ s.place (pushAt s + 1)

/-- A run of a call with the decoded operand `a16`: the address of the next instruction pushed, and `pc` at the operand bytes as they are
after the push (R87 (a), R109, R286), which is `a16` when they held it and the push lies elsewhere. -/
def RunsCalling (i : Instr) (s : State) (a16 : Word) : Prop :=
  ∃ t, exec i s = .next t ∧ StoredWord s t (pushAt s) (s.pc + 3) ∧
    SameButStore { s with sp := pushAt s, pc := wordAt t (s.pc + 1), idle := s.idle + 5 } t (pushAt s) ∧
    (wordAt s (s.pc + 1) = a16 → PushOffOperand s → t.pc = a16)

/-- The store is in canonical form and both bytes of the word at `a` are mapped. -/
def WordMapped (s : State) (a : Word) : Prop :=
  Memory.wf s.mem = true ∧ s.place a ≠ .unmapped ∧ s.place (a + 1) ≠ .unmapped

/-- The store is in canonical form and the byte at `a` is mapped. -/
def ByteMapped (s : State) (a : Word) : Prop := Memory.wf s.mem = true ∧ s.place a ≠ .unmapped

/-- The address of a window load (R110). -/
def window (v : Byte) : Word := 0xFF00 + v.setWidth 16

/-- The target of a relative jump (R283). -/
def relative (s : State) (e8 : Byte) : Word := s.pc + 2 + e8.signExtend 16

/-- Bit `i` of the carry chain of R141: `c[0]` is the carry in. -/
def carry (x y : Byte) (cin : Bool) : Nat → Bool
  | 0 => cin
  | i + 1 =>
    (x.getLsbD i && y.getLsbD i) || (x.getLsbD i && carry x y cin i) || (y.getLsbD i && carry x y cin i)

/-- Bit `i` of the borrow chain of R142: `b[0]` is the borrow in. -/
def borrow (x y : Byte) (bin : Bool) : Nat → Bool
  | 0 => bin
  | i + 1 => (!x.getLsbD i && y.getLsbD i) || (!(x.getLsbD i ^^ y.getLsbD i) && borrow x y bin i)

/-- The four timer cells are four distinct bytes of memory (R34 to R37), none of them IE or IF. -/
def TimerMapped (s : State) : Prop :=
  ∃ d i m c, s.place 0xFF04 = .mem d ∧ s.place 0xFF05 = .mem i ∧ s.place 0xFF06 = .mem m ∧ s.place 0xFF07 = .mem c ∧
    d ≠ i ∧ d ≠ m ∧ d ≠ c ∧ i ≠ m ∧ i ≠ c ∧ m ≠ c

/-- The tapped bit of the counter, by TAC bits 1 and 0 (R330). -/
def tapOf (tac : Byte) : Nat :=
  if tac.toNat % 4 = 0 then 9 else if tac.toNat % 4 = 1 then 3 else if tac.toNat % 4 = 2 then 5 else 7

/-- The tap state of a TAC byte and a counter: enabled, and the tapped bit set (R330). -/
def tapState (tac : Byte) (counter : Word) : Bool := tac.getLsbD 2 && counter.getLsbD (tapOf tac)

/-- What counting one edge leaves at an address: TIMA one higher, or TMA when it was 0xFF; and a TIMER request then (R333). -/
def countedRead (s : State) (edge : Bool) (b : Word) (other : Byte) : Byte :=
  if edge = true ∧ s.place b = s.place 0xFF05 then
    (if busRead s 0xFF05 = 0xFF then busRead s 0xFF06 else busRead s 0xFF05 + 1)
  else if edge = true ∧ busRead s 0xFF05 = 0xFF ∧ s.place b = .ifReg then s.iflag ||| 0x04
  else other

/-- What counting one edge leaves in byte `k` of the store, with or without an address: TIMA's byte as in `countedRead`, any other as it was
(R333). -/
def countedByte (s : State) (edge : Bool) (k : Nat) : Byte :=
  if edge = true ∧ s.place 0xFF05 = .mem k then
    (if busRead s 0xFF05 = 0xFF then busRead s 0xFF06 else busRead s 0xFF05 + 1)
  else Memory.read s.mem k

/-- IF after counting one edge (R333). -/
def countedIF (s : State) (edge : Bool) : Byte :=
  if edge = true ∧ busRead s 0xFF05 = 0xFF then s.iflag ||| 0x04 else s.iflag

/-- An instruction transfers control with these flags (R280 to R292): an unconditional jump, call, restart or return, or a conditional one
whose condition holds. Every other instruction falls through, NOP, STOP, HALT, DI and EI among them. -/
def Transfers (i : Instr) (f : Flags) : Prop :=
  (∃ a16, i = .jpA16 a16) ∨ i = .jpHL ∨ (∃ e8, i = .jrE8 e8) ∨ (∃ a16, i = .callA16 a16) ∨ (∃ n, i = Instr.rst n) ∨ i = .ret ∨ i = .reti ∨
  ∃ cc, condHolds cc f = true ∧
    ((∃ a16, i = Instr.jpCond cc a16) ∨ (∃ e8, i = Instr.jrCond cc e8) ∨ (∃ a16, i = Instr.callCond cc a16) ∨ i = Instr.retCond cc)

/-- Whether some address of a range is mapped (R68). -/
def SomeMapped (s : State) (first last : Word) : Prop :=
  ∃ a : Word, first.toNat ≤ a.toNat ∧ a.toNat ≤ last.toNat ∧ s.place a ≠ .unmapped

/-- The bytes at `pc` are those of an instruction, the addresses wrapping (R25, R117). -/
def BytesAtPc (s : State) (bs : List Byte) : Prop :=
  ∀ (k : Nat) (h : k < bs.length), busRead s (s.pc + BitVec.ofNat 16 k) = bs[k]

end Sys2Proof.Terms

open Sys2Proof Sys2Proof.Machine Sys2Proof.Terms

/-! The 8-bit arithmetic and logic instructions (spec/41_alu8_instructions.md; opcode binding: decision D1). -/

/-- ADD A,s and ADC A,s (spec/41_alu8_instructions.md, R170, R171, R184), for every source: the whole next state. -/
def Obligations.AddAndAdcResult : Prop :=
  ∀ s : State,
    (∀ o : Operand8,
      exec (Instr.aluOp .add o) s = .next (afterAdd s (rd8 o s) false 1 (memCycle o 1)) ∧
      exec (Instr.aluOp .adc o) s = .next (afterAdd s (rd8 o s) s.regs.f.c 1 (memCycle o 1))) ∧
    (∀ n8 : Byte,
      exec (Instr.aluImm .add n8) s = .next (afterAdd s n8 false 2 1) ∧
      exec (Instr.aluImm .adc n8) s = .next (afterAdd s n8 s.regs.f.c 2 1))

/-- SUB s and SBC A,s (spec/41_alu8_instructions.md, R172, R173), for every source: the whole next state. C is the plain borrow
(decision D9, log entry 9). -/
def Obligations.SubAndSbcResult : Prop :=
  ∀ s : State,
    (∀ o : Operand8,
      exec (Instr.aluOp .sub o) s = .next (afterSub s (rd8 o s) false true 1 (memCycle o 1)) ∧
      exec (Instr.aluOp .sbc o) s = .next (afterSub s (rd8 o s) s.regs.f.c true 1 (memCycle o 1))) ∧
    (∀ n8 : Byte,
      exec (Instr.aluImm .sub n8) s = .next (afterSub s n8 false true 2 1) ∧
      exec (Instr.aluImm .sbc n8) s = .next (afterSub s n8 s.regs.f.c true 2 1))

/-- CP s (spec/41_alu8_instructions.md, R177): the flags of SUB, A kept. -/
def Obligations.CompareResult : Prop :=
  ∀ s : State,
    (∀ o : Operand8, exec (Instr.aluOp .cp o) s = .next (afterSub s (rd8 o s) false false 1 (memCycle o 1))) ∧
    (∀ n8 : Byte, exec (Instr.aluImm .cp n8) s = .next (afterSub s n8 false false 2 1))

/-- AND s, XOR s and OR s (spec/41_alu8_instructions.md, R174 to R176), for every source: the whole next state. -/
def Obligations.LogicResult : Prop :=
  ∀ s : State,
    (∀ o : Operand8,
      exec (Instr.aluOp .and o) s = .next (afterLogic s (s.regs.a &&& rd8 o s) true 1 (memCycle o 1)) ∧
      exec (Instr.aluOp .xor o) s = .next (afterLogic s (s.regs.a ^^^ rd8 o s) false 1 (memCycle o 1)) ∧
      exec (Instr.aluOp .or o) s = .next (afterLogic s (s.regs.a ||| rd8 o s) false 1 (memCycle o 1))) ∧
    (∀ n8 : Byte,
      exec (Instr.aluImm .and n8) s = .next (afterLogic s (s.regs.a &&& n8) true 2 1) ∧
      exec (Instr.aluImm .xor n8) s = .next (afterLogic s (s.regs.a ^^^ n8) false 2 1) ∧
      exec (Instr.aluImm .or n8) s = .next (afterLogic s (s.regs.a ||| n8) false 2 1))

/-- INC r and DEC r on a byte register (spec/41_alu8_instructions.md, R178, R179): the whole next state but for `scratch`, which no rule
reads (R42). -/
def Obligations.IncDecRegisterResult : Prop :=
  ∀ (s : State) (r : Reg8),
    (∃ x, exec (Instr.incOp (.reg r)) s =
      .next { s.setReg r (s.reg r + 1) with regs.f := incFlags (s.reg r) s.regs.f.c, scratch := x, pc := s.pc + 1 }) ∧
    (∃ x, exec (Instr.decOp (.reg r)) s =
      .next { s.setReg r (s.reg r - 1) with regs.f := decFlags (s.reg r) s.regs.f.c, scratch := x, pc := s.pc + 1 })

/-- INC (HL) and DEC (HL) (spec/41_alu8_instructions.md, R178, R179): one byte stored at HL, and the rest of the next state. -/
def Obligations.IncDecMemoryResult : Prop :=
  ∀ s : State, ByteMapped s s.hl →
    (∃ x, RunsStoringByte .incAtHL s s.hl (busRead s s.hl + 1)
      { s with regs.f := incFlags (busRead s s.hl) s.regs.f.c, scratch := x, pc := s.pc + 1, idle := s.idle + 2 }) ∧
    (∃ x, RunsStoringByte .decAtHL s s.hl (busRead s s.hl - 1)
      { s with regs.f := decFlags (busRead s s.hl) s.regs.f.c, scratch := x, pc := s.pc + 1, idle := s.idle + 2 })

/-- DAA, CPL, SCF and CCF (spec/41_alu8_instructions.md, R180 to R183, decision D20): the whole next state but for `scratch`. -/
def Obligations.DecimalAndFlagResult : Prop :=
  ∀ s : State,
    let a := s.regs.a
    let f := s.regs.f
    let low := f.h || (!f.n && decide (a.toNat % 16 > 9))
    let high := f.c || (!f.n && decide (a.toNat > 0x99))
    let adj : Byte := (if low then 0x06 else 0) + (if high then 0x60 else 0)
    let v := if f.n then a - adj else a + adj
    (∃ x, exec .daa s =
      .next { s with regs.a := v, regs.f := { z := decide (v = 0), n := f.n, h := false, c := high }, scratch := x, pc := s.pc + 1 }) ∧
    (∃ x, exec .cpl s =
      .next { s with regs.a := ~~~a, regs.f := { z := f.z, n := true, h := true, c := f.c }, scratch := x, pc := s.pc + 1 }) ∧
    (∃ x, exec .scf s =
      .next { s with regs.f := { z := f.z, n := false, h := false, c := true }, scratch := x, pc := s.pc + 1 }) ∧
    (∃ x, exec .ccf s =
      .next { s with regs.f := { z := f.z, n := false, h := false, c := !f.c }, scratch := x, pc := s.pc + 1 })

/-! The 16-bit arithmetic instructions (spec/42_alu16_instructions.md). -/

/-- ADD HL,rr (spec/42_alu16_instructions.md, R200): HL the sum modulo 65536, Z kept, N clear, H and C the carries out of bits 11 and 15. -/
def Obligations.AddPairResult : Prop :=
  ∀ (s : State) (p : Reg16),
    let x := s.hl.toNat
    let y := (s.pair p).toNat
    ∃ r, exec (Instr.addHL p) s =
      .next
        { s.setHL (s.hl + s.pair p) with
          regs.f := { z := s.regs.f.z, n := false, h := decide (x % 4096 + y % 4096 > 4095), c := decide (x + y > 65535) }
          scratch := r
          pc := s.pc + 1
          idle := s.idle + 1 }

/-- INC rr and DEC rr (spec/42_alu16_instructions.md, R201, R202): the pair one up or down modulo 65536, no flag changed. -/
def Obligations.IncDecPairResult : Prop :=
  ∀ (s : State) (p : Reg16),
    (∃ r, exec (Instr.incPair p) s = .next { s.setPair p (s.pair p + 1) with scratch := r, pc := s.pc + 1, idle := s.idle + 1 }) ∧
    (∃ r, exec (Instr.decPair p) s = .next { s.setPair p (s.pair p - 1) with scratch := r, pc := s.pc + 1, idle := s.idle + 1 })

/-- ADD SP,e8 and LD HL,SP+e8 (spec/42_alu16_instructions.md, R203, R204): the sum with the sign-extended offset, Z and N clear, H and C
the carries out of bits 3 and 7 of the sum of SP's low byte and the unsigned offset byte. -/
def Obligations.StackPointerOffsetResult : Prop :=
  ∀ (s : State) (e8 : Byte),
    let sum := s.sp + e8.signExtend 16
    let low := s.sp.toNat % 256
    let f : Flags :=
      { z := false, n := false, h := decide (low % 16 + e8.toNat % 16 > 15), c := decide (low + e8.toNat > 255) }
    (∃ r, exec (.addSPE8 e8) s =
      .next { s with sp := sum, regs.f := f, scratch := r, pc := s.pc + 2, idle := s.idle + 3 }) ∧
    (∃ r, exec (.ldHLSPE8 e8) s =
      .next { s.setHL sum with regs.f := f, scratch := r, pc := s.pc + 2, idle := s.idle + 2 })

/-! Rotates, shifts and bits (spec/43_rotate_shift_bit.md). -/

/-- RLCA, RRCA, RLA and RRA (spec/43_rotate_shift_bit.md, R210 to R213): the values of their extended twins on A, but Z always clear. -/
def Obligations.AccumulatorRotateResult : Prop :=
  ∀ (s : State) (i : Instr) (op : ShiftOp),
    (i, op) ∈ [(Instr.rlca, ShiftOp.rlc), (.rrca, .rrc), (.rla, .rl), (.rra, .rr)] →
    ∃ r, exec i s =
      .next
        { s with
          regs.a := shifted op s.regs.a s.regs.f.c
          regs.f := { z := false, n := false, h := false, c := shiftedOut op s.regs.a }
          scratch := r
          pc := s.pc + 1 }

/-- RLC, RRC, RL, RR, SLA, SRA, SWAP and SRL on a byte register (spec/43_rotate_shift_bit.md, R214 to R221, R225). -/
def Obligations.ShiftRegisterResult : Prop :=
  ∀ (s : State) (op : ShiftOp) (r : Reg8),
    let v := s.reg r
    let c := s.regs.f.c
    ∃ x, exec (Instr.shiftOp op (.reg r)) s =
      .next
        { s.setReg r (shifted op v c) with
          regs.f := shiftedFlags op v c
          scratch := x
          pc := s.pc + 2
          idle := s.idle + 1 }

/-- The same eight on (HL) (spec/43_rotate_shift_bit.md, R214 to R221, R225): one byte stored at HL. -/
def Obligations.ShiftMemoryResult : Prop :=
  ∀ (s : State) (op : ShiftOp), ByteMapped s s.hl →
    let v := busRead s s.hl
    let c := s.regs.f.c
    ∃ x, RunsStoringByte (Instr.shiftOp op .atHL) s s.hl (shifted op v c)
      { s with regs.f := shiftedFlags op v c, scratch := x, pc := s.pc + 2, idle := s.idle + 3 }

/-- BIT b,r (spec/43_rotate_shift_bit.md, R222): Z iff the bit is 0, N clear, H set, C kept; nothing else but `pc`, `idle` and
`scratch`. -/
def Obligations.BitTestResult : Prop :=
  ∀ (s : State) (b : Fin 8) (o : Operand8),
    ∃ x, exec (Instr.bitOp b o) s =
      .next
        { s with
          regs.f := { z := !(rd8 o s).getLsbD b.val, n := false, h := true, c := s.regs.f.c }
          scratch := x
          pc := s.pc + 2
          idle := s.idle + 1 + memCycle o 1 }

/-- RES b,r and SET b,r on a byte register (spec/43_rotate_shift_bit.md, R223 to R225): one bit changed, no flag. -/
def Obligations.ResSetRegisterResult : Prop :=
  ∀ (s : State) (b : Fin 8) (r : Reg8),
    (∃ x, exec (Instr.resOp b (.reg r)) s =
      .next { s.setReg r (withoutBit (s.reg r) b) with scratch := x, pc := s.pc + 2, idle := s.idle + 1 }) ∧
    (∃ x, exec (Instr.setOp b (.reg r)) s =
      .next { s.setReg r (withBit (s.reg r) b) with scratch := x, pc := s.pc + 2, idle := s.idle + 1 })

/-- RES b,(HL) and SET b,(HL) (spec/43_rotate_shift_bit.md, R223 to R225): one byte stored at HL, no flag changed. -/
def Obligations.ResSetMemoryResult : Prop :=
  ∀ (s : State) (b : Fin 8), ByteMapped s s.hl →
    (∃ x, RunsStoringByte (Instr.resOp b .atHL) s s.hl (withoutBit (busRead s s.hl) b)
      { s with scratch := x, pc := s.pc + 2, idle := s.idle + 3 }) ∧
    (∃ x, RunsStoringByte (Instr.setOp b .atHL) s s.hl (withBit (busRead s s.hl) b)
      { s with scratch := x, pc := s.pc + 2, idle := s.idle + 3 })

/-! Loads, stores and the stack (spec/44_load_store.md). -/

/-- Every load of a byte register (spec/44_load_store.md, R245 to R247, R249, R251, R252, R255, R257, R264): the whole next state; no
flag, no memory and no `last_write` change. -/
def Obligations.LoadByteResult : Prop :=
  ∀ s : State,
    (∀ dst r : Reg8, exec (Instr.ldRegReg dst r) s = .next { s.setReg dst (s.reg r) with pc := s.pc + 1 }) ∧
    (∀ (dst : Reg8) (n8 : Byte),
      exec (Instr.ldImm (.reg dst) n8) s = .next { s.setReg dst n8 with pc := s.pc + 2, idle := s.idle + 1 }) ∧
    (∀ dst : Reg8,
      exec (Instr.ldRegMem dst) s = .next { s.setReg dst (busRead s s.hl) with pc := s.pc + 1, idle := s.idle + 1 }) ∧
    exec (Instr.ldAPtr .bc) s = .next { s with regs.a := busRead s s.bc, pc := s.pc + 1, idle := s.idle + 1 } ∧
    exec (Instr.ldAPtr .de) s = .next { s with regs.a := busRead s s.de, pc := s.pc + 1, idle := s.idle + 1 } ∧
    exec (Instr.ldAPtr .hlInc) s =
      .next { s.setHL (s.hl + 1) with regs.a := busRead s s.hl, pc := s.pc + 1, idle := s.idle + 1 } ∧
    exec (Instr.ldAPtr .hlDec) s =
      .next { s.setHL (s.hl - 1) with regs.a := busRead s s.hl, pc := s.pc + 1, idle := s.idle + 1 } ∧
    (∀ a8 : Byte,
      exec (.ldhAAtA8 a8) s = .next { s with regs.a := busRead s (window a8), pc := s.pc + 2, idle := s.idle + 2 }) ∧
    exec .ldAAtC s = .next { s with regs.a := busRead s (window s.regs.c), pc := s.pc + 1, idle := s.idle + 1 } ∧
    (∀ a16 : Word, exec (.ldAAtA16 a16) s = .next { s with regs.a := busRead s a16, pc := s.pc + 3, idle := s.idle + 3 })

/-- LD rr,n16, LD SP,HL and POP rs (spec/44_load_store.md, R242, R259, R261, R263): the whole next state. POP takes the word at SP, low
byte first, and moves SP up by 2; POP AF replaces all four flags and drops the low nibble. -/
def Obligations.LoadPairResult : Prop :=
  ∀ s : State,
    (∀ (p : Reg16) (n16 : Word),
      exec (Instr.ldPairImm p n16) s = .next { s.setPair p n16 with pc := s.pc + 3, idle := s.idle + 2 }) ∧
    exec .ldSPHL s = .next { s with sp := s.hl, pc := s.pc + 1, idle := s.idle + 1 } ∧
    (∀ p : StackPair, exec (Instr.popOp p) s =
      .next { s.setStackPair p (wordAt s s.sp) with sp := s.sp + 2, pc := s.pc + 1, idle := s.idle + 2 })

/-- Every store of a byte register or immediate (spec/44_load_store.md, R244, R248, R250, R253, R254, R256, R258, R265): the byte, its
address, and the whole rest of the next state. -/
def Obligations.StoreByteResult : Prop :=
  ∀ s : State,
    (∀ r : Reg8, ByteMapped s s.hl →
      RunsStoringByte (Instr.ldMemReg r) s s.hl (s.reg r) { s with pc := s.pc + 1, idle := s.idle + 1 }) ∧
    (∀ n8 : Byte, ByteMapped s s.hl →
      RunsStoringByte (.ldAtHLN8 n8) s s.hl n8 { s with pc := s.pc + 2, idle := s.idle + 2 }) ∧
    (ByteMapped s s.bc → RunsStoringByte .ldAtBCA s s.bc s.regs.a { s with pc := s.pc + 1, idle := s.idle + 1 }) ∧
    (ByteMapped s s.de → RunsStoringByte .ldAtDEA s s.de s.regs.a { s with pc := s.pc + 1, idle := s.idle + 1 }) ∧
    (ByteMapped s s.hl →
      RunsStoringByte .ldAtHLIncA s s.hl s.regs.a { s.setHL (s.hl + 1) with pc := s.pc + 1, idle := s.idle + 1 } ∧
      RunsStoringByte .ldAtHLDecA s s.hl s.regs.a { s.setHL (s.hl - 1) with pc := s.pc + 1, idle := s.idle + 1 }) ∧
    (∀ a8 : Byte, ByteMapped s (window a8) →
      RunsStoringByte (.ldhAtA8A a8) s (window a8) s.regs.a { s with pc := s.pc + 2, idle := s.idle + 2 }) ∧
    (ByteMapped s (window s.regs.c) →
      RunsStoringByte .ldAtCA s (window s.regs.c) s.regs.a { s with pc := s.pc + 1, idle := s.idle + 1 }) ∧
    (∀ a16 : Word, ByteMapped s a16 →
      RunsStoringByte (.ldAtA16A a16) s a16 s.regs.a { s with pc := s.pc + 3, idle := s.idle + 3 })

/-- LD (a16),SP and PUSH rs (spec/44_load_store.md, R241, R260, R262): the word, its address, and the whole rest of the next state. A push
with SP below 2 stores at SP itself (decision D16, log entry 6). -/
def Obligations.StoreWordResult : Prop :=
  ∀ s : State,
    (∀ a16 : Word, WordMapped s a16 →
      RunsStoringWord (.ldAtA16SP a16) s a16 s.sp { s with pc := s.pc + 3, idle := s.idle + 4 }) ∧
    (∀ p : StackPair, WordMapped s (pushAt s) →
      RunsStoringWord (Instr.pushOp p) s (pushAt s) (s.stackPair p)
        { s with sp := pushAt s, pc := s.pc + 1, idle := s.idle + 3 })

/-! Control flow (spec/45_control_flow.md). -/

/-- JP a16, JP HL, JR e8, JP cc,a16 and JR cc,e8 (spec/45_control_flow.md, R280 to R285): taken and not taken. -/
def Obligations.JumpResult : Prop :=
  ∀ s : State,
    (∀ a16 : Word, exec (.jpA16 a16) s = .next { s with pc := a16, idle := s.idle + 3 }) ∧
    exec .jpHL s = .next { s with pc := s.hl } ∧
    (∀ e8 : Byte, exec (.jrE8 e8) s = .next { s with pc := relative s e8, idle := s.idle + 2 }) ∧
    (∀ (cc : Cond) (a16 : Word), exec (Instr.jpCond cc a16) s =
      if condHolds cc s.regs.f then .next { s with pc := a16, idle := s.idle + 3 }
      else .next { s with pc := s.pc + 3, idle := s.idle + 2 }) ∧
    (∀ (cc : Cond) (e8 : Byte), exec (Instr.jrCond cc e8) s =
      if condHolds cc s.regs.f then .next { s with pc := relative s e8, idle := s.idle + 2 }
      else .next { s with pc := s.pc + 2, idle := s.idle + 1 })

/-- CALL a16, CALL cc,a16 and RST t (spec/45_control_flow.md, R286, R287, R290; spec/20_memory.md, R87): the address of the next
instruction pushed, then the jump, and the whole rest of the next state; the target of a CALL is read after its push; a call whose
condition fails only falls through. Where the push goes is decision D16 when SP is below 2, and the address `last_write` records D10 (log
entries 6, 20). -/
def Obligations.CallResult : Prop :=
  ∀ s : State,
    (∀ a16 : Word, WordMapped s (pushAt s) → RunsCalling (.callA16 a16) s a16) ∧
    (∀ (cc : Cond) (a16 : Word), condHolds cc s.regs.f = true → WordMapped s (pushAt s) →
      RunsCalling (Instr.callCond cc a16) s a16) ∧
    (∀ (cc : Cond) (a16 : Word), condHolds cc s.regs.f = false →
      exec (Instr.callCond cc a16) s = .next { s with pc := s.pc + 3, idle := s.idle + 2 }) ∧
    (∀ t : Fin 8, WordMapped s (pushAt s) →
      RunsStoringWord (Instr.rst t) s (pushAt s) (s.pc + 1)
        { s with sp := pushAt s, pc := BitVec.ofNat 16 (8 * t.val), idle := s.idle + 3 })

/-- RET, RET cc and RETI (spec/45_control_flow.md, R288, R289, R292): the popped word in `pc`, SP up by 2; RETI also sets IME at once
(decision D14, log entry 16). -/
def Obligations.ReturnResult : Prop :=
  ∀ s : State,
    exec .ret s = .next { s with pc := wordAt s s.sp, sp := s.sp + 2, idle := s.idle + 3 } ∧
    exec .reti s = .next { s with pc := wordAt s s.sp, sp := s.sp + 2, idle := s.idle + 3, ime := true } ∧
    (∀ cc : Cond, exec (Instr.retCond cc) s =
      if condHolds cc s.regs.f then .next { s with pc := wordAt s s.sp, sp := s.sp + 2, idle := s.idle + 4 }
      else .next { s with pc := s.pc + 1, idle := s.idle + 1 })

/-- NOP, STOP, HALT, DI and EI (spec/45_control_flow.md, R293 to R298; decisions D14 and D15, log entries 16 and 17): the whole next
state. -/
def Obligations.ControlResult : Prop :=
  ∀ (s : State) (i : Instr) (t : State),
    (i, t) ∈
      [ (Instr.nop, { s with pc := s.pc + 1 }), (.stop, { s with pc := s.pc + 2 }),
        (.halt, { s with pc := s.pc + 1, halt := true }), (.di, { s with pc := s.pc + 1, ime := false }),
        (.ei, { s with pc := s.pc + 1, ime := true }) ] →
    exec i s = .next t

/-! Every instruction at once. -/

/-- Every instruction completes unless it would store to an unmapped address, and then it faults with the first such address
(spec/60_exceptions.md, R342, R346; spec/20_memory.md, R79). Two of its cases rest on the spec's decisions: that a push with SP below 2
completes at SP itself is D16 (`skip_decrement`, not `refuse`; log entry 6), and that the low byte of a word is stored first, and so
decides which address the fault names, is D11 (log entry 21). -/
def Obligations.ExecFaultsExactlyOnUnmappedStore : Prop :=
  ∀ (i : Instr) (s : State),
    (∀ a, firstUnmapped i s = some a → exec i s = .fault (.unmappedWrite a)) ∧
    (firstUnmapped i s = none → ∃ t, exec i s = .next t)

/-- What no instruction changes (frame): every byte outside the cells it stores to, the timer, the cell map, the components, the blocks,
the parameters and the environment's moves; and `last_write` changes only to the address of its store (spec/20_memory.md, R63, R92). That
a word store records the address of its low byte, the first one, is decision D10 (log entry 20), and where a push with SP below 2 stores
is D16 (log entry 6). -/
def Obligations.ExecFrame : Prop :=
  ∀ (i : Instr) (s t : State), Memory.wf s.mem = true → exec i s = .next t →
    (∀ b, (∀ a ∈ storedAddresses i s, s.place b ≠ s.place a) → busRead t b = busRead s b) ∧
    (∀ k, (∀ a ∈ storedAddresses i s, s.place a ≠ .mem k) → Memory.read t.mem k = Memory.read s.mem k) ∧
    ((∀ a ∈ storedAddresses i s, s.place a ≠ .ieReg) → t.ie = s.ie) ∧
    ((∀ a ∈ storedAddresses i s, s.place a ≠ .ifReg) → t.iflag = s.iflag) ∧
    t.lastWrite = (storedAddresses i s).headD s.lastWrite ∧
    t.counter = s.counter ∧ t.tapPrev = s.tapPrev ∧ t.cells = s.cells ∧ t.components = s.components ∧ t.blocks = s.blocks ∧
    t.params = s.params ∧ t.env = s.env ∧ t.bootListener = s.bootListener

/-- Who may change the flags, IME and HALT (spec/10_state.md, R28, R30, R39; spec/60_exceptions.md, R321): flags only an instruction of the
ALU family and POP AF; IME only DI, EI and RETI; HALT only HALT, and it sets it. That IME has changed already in the instruction's own
next state is decision D14 (log entry 16), and which rows are of the ALU family is D1 (log entry 1). -/
def Obligations.StatusFrame : Prop :=
  ∀ (i : Instr) (s t : State), exec i s = .next t →
    (i.row.family ≠ .alu → i ≠ .popAF → t.regs.f = s.regs.f) ∧
    t.ime = (if i = .di then false else if i = .ei ∨ i = .reti then true else s.ime) ∧
    t.halt = (if i = .halt then true else s.halt)

/-- Length and cost (spec/60_exceptions.md, R316; spec/30_encoding.md, R118; spec/45_control_flow.md, R285; the numbers are decision D1, log
entry 1): an instruction that does not transfer control, a conditional one whose condition fails among them, falls through to the next with
its base cost; one that does is of the control family, and costs its base cost and the extra cost of its row. -/
def Obligations.LengthAndCost : Prop :=
  ∀ (i : Instr) (s t : State), exec i s = .next t →
    (¬ Transfers i s.regs.f → t.pc = s.pc + BitVec.ofNat 16 i.row.bytes ∧ t.idle = s.idle + (i.row.cycles - 1)) ∧
    (Transfers i s.regs.f → i.row.family = .control ∧ t.idle = s.idle + (i.row.cycles - 1 + i.row.xtra))

/-! The ALU and the flags (spec/40_bitops_alu.md). -/

/-- R141: `add8` is the carry chain over 8 bit positions, and so the sum modulo 256 with H and C the carries out of bits 3 and 7. -/
def Obligations.Add8IsCarryChain : Prop :=
  ∀ (x y : Byte) (cin : Bool),
    let r := add8 x y cin
    (∀ i, i < 8 → r.value.getLsbD i = (x.getLsbD i ^^ y.getLsbD i ^^ carry x y cin i)) ∧
    r.value.toNat = (x.toNat + y.toNat + bit cin) % 256 ∧
    r.flags = { z := decide (r.value = 0), n := false, h := carry x y cin 4, c := carry x y cin 8 } ∧
    r.flags.h = decide (x.toNat % 16 + y.toNat % 16 + bit cin > 15) ∧
    r.flags.c = decide (x.toNat + y.toNat + bit cin > 255)

/-- `sub8` is the borrow chain over 8 bit positions (spec/40_bitops_alu.md, R142; C is the plain borrow: decision D9, log
entry 9; Z is the zero test: decision D27, log entry 25). -/
def Obligations.Sub8IsBorrowChain : Prop :=
  ∀ (x y : Byte) (bin : Bool),
    let r := sub8 x y bin
    (∀ i, i < 8 → r.value.getLsbD i = (x.getLsbD i ^^ y.getLsbD i ^^ borrow x y bin i)) ∧
    r.value.toNat = (x.toNat + 256 - (y.toNat + bit bin)) % 256 ∧
    r.flags = { z := decide (r.value = 0), n := true, h := borrow x y bin 4, c := borrow x y bin 8 } ∧
    r.flags.h = decide (x.toNat % 16 < y.toNat % 16 + bit bin) ∧
    r.flags.c = decide (x.toNat < y.toNat + bit bin)

/-- R143 and R144: both 16-bit additions give the sum modulo 65536 and Z of it, N clear; `add16_low` has H and C of the low bytes,
`add16_high` those out of bits 11 and 15. -/
def Obligations.Add16Flags : Prop :=
  ∀ x y : Word,
    add16Low x y =
      { value := x + y
        flags :=
          { z := decide (x + y = 0), n := false, h := decide (x.toNat % 16 + y.toNat % 16 > 15),
            c := decide (x.toNat % 256 + y.toNat % 256 > 255) } } ∧
    add16High x y =
      { value := x + y
        flags :=
          { z := decide (x + y = 0), n := false, h := decide (x.toNat % 4096 + y.toNat % 4096 > 4095),
            c := decide (x.toNat + y.toNat > 65535) } } ∧
    (add16Low x y).flags.h = (add8 (lo8 x) (lo8 y) false).flags.h ∧
    (add16Low x y).flags.c = (add8 (lo8 x) (lo8 y) false).flags.c

/-- R145 to R148: the four shift and rotate functions, bit by bit; C is the bit that left, Z is of the result, N and H are clear. -/
def Obligations.ShiftFunctions : Prop :=
  ∀ (x : Byte) (f : Flags),
    (∀ i, i < 8 →
      (shift x .left).value.getLsbD i = (decide (0 < i) && x.getLsbD (i - 1)) ∧
      (shift x .right).value.getLsbD i = x.getLsbD (i + 1) ∧
      (shiftRA x).value.getLsbD i = x.getLsbD (min (i + 1) 7) ∧
      (rotate x .left).value.getLsbD i = x.getLsbD ((i + 7) % 8) ∧
      (rotate x .right).value.getLsbD i = x.getLsbD ((i + 1) % 8) ∧
      (carryRotate x .left f).value.getLsbD i = (if i = 0 then f.c else x.getLsbD (i - 1)) ∧
      (carryRotate x .right f).value.getLsbD i = (if i = 7 then f.c else x.getLsbD (i + 1))) ∧
    (∀ r ∈ [shift x .left, rotate x .left, carryRotate x .left f],
      r.value.toNat < 256 ∧ r.flags = { z := decide (r.value = 0), n := false, h := false, c := x.getLsbD 7 }) ∧
    (∀ r ∈ [shift x .right, shiftRA x, rotate x .right, carryRotate x .right f],
      r.value.toNat < 256 ∧ r.flags = { z := decide (r.value = 0), n := false, h := false, c := x.getLsbD 0 }) ∧
    (∀ d, lo8 (rotate x d).value = bitRotate x d 1)

/-- The bit functions (spec/40_bitops_alu.md, R130 to R134), every index and distance saturated to 0 to 7 (decision D26). -/
def Obligations.BitFunctions : Prop :=
  (∀ v : Byte, (lsb4 v).toNat = v.toNat % 16 ∧ (msb4 v).toNat = v.toNat / 16 ∧ merge4 (v &&& 0x0F) (v >>> 4) = v) ∧
  (∀ w : Word, (lo8 w).toNat = w.toNat % 256 ∧ (hi8 w).toNat = w.toNat / 256 ∧ merge8 (lo8 w) (hi8 w) = w) ∧
  (∀ low high : Byte, (merge4 low high).toNat = 16 * (high.toNat % 16) + low.toNat % 16) ∧
  (∀ low high : Byte, (merge8 low high).toNat = 256 * high.toNat + low.toNat) ∧
  (∀ (v w : Byte) (n : Int) (j : Nat),
    let k := if n < 0 then 0 else if n > 7 then 7 else n.toNat
    bitGet v n = v.getLsbD k ∧
    (j < 8 → (bitSet v n).getLsbD j = (decide (j = k) || v.getLsbD j)) ∧
    (j < 8 → (bitUnset v n).getLsbD j = (!decide (j = k) && v.getLsbD j)) ∧
    bitEdit v n w = (if w = 0 then bitUnset v n else bitSet v n) ∧
    bitRotate v .left n = v.rotateLeft k ∧ bitRotate v .right n = v.rotateRight k)

/-- R112: each flag from its own source, all four on the old F, the low nibble of F zero, nothing else changed; four times `CPU` changes
nothing. R111: the four condition codes test Z and C. -/
def Obligations.FlagCompositionAndConditions : Prop :=
  (∀ f : Flags,
    (condHolds .nz f = true ↔ f.z = false) ∧ (condHolds .z f = true ↔ f.z = true) ∧
    (condHolds .nc f = true ↔ f.c = false) ∧ (condHolds .c f = true ↔ f.c = true)) ∧
  ∀ (zs ns hs cs : FlagSource) (s : State),
    let pick : FlagSource → Bool → Bool → Bool := fun src alu old =>
      if src = .clear then false else if src = .set then true else if src = .alu then alu else old
    let f : Flags :=
      { z := pick zs s.scratch.flags.z s.regs.f.z, n := pick ns s.scratch.flags.n s.regs.f.n,
        h := pick hs s.scratch.flags.h s.regs.f.h, c := pick cs s.scratch.flags.c s.regs.f.c }
    combineFlags zs ns hs cs s = { s with regs.f := f } ∧
    f.toByte.toNat % 16 = 0 ∧
    combineFlags .cpu .cpu .cpu .cpu s = s

/-- R22: a write of AF puts the high byte in A and the low byte, its low nibble cleared, in F; a write of F alone masks in the same way. -/
def Obligations.WritingAFClearsLowNibble : Prop :=
  ∀ (s : State) (v : Word) (w : Byte),
    (s.setAF v).regs.a = hi8 v ∧
    (s.setAF v).regs.f.toByte = (lo8 v &&& 0xF0) ∧
    (s.setAF v).af = (v &&& 0xFFF0) ∧
    s.setAF v = { s with regs.a := (s.setAF v).regs.a, regs.f := (s.setAF v).regs.f } ∧
    (Flags.ofByte w).toByte = (w &&& 0xF0) ∧
    Flags.ofByte s.regs.f.toByte = s.regs.f

/-- Pairs are no separate storage (spec/10_state.md, R21, R22; high byte first: decision D2, log entry 10): a pair reads its two registers,
and what is written to a pair or to SP is read back, every other register kept. -/
def Obligations.PairsShareRegisters : Prop :=
  ∀ (s : State) (v : Word),
    (s.bc.toNat = 256 * s.regs.b.toNat + s.regs.c.toNat ∧ s.de.toNat = 256 * s.regs.d.toNat + s.regs.e.toNat ∧
      s.hl.toNat = 256 * s.regs.h.toNat + s.regs.l.toNat ∧ s.af.toNat = 256 * s.regs.a.toNat + s.regs.f.toByte.toNat) ∧
    (∀ p : Reg16, (s.setPair p v).pair p = v ∧ ∀ q, q ≠ p → (s.setPair p v).pair q = s.pair q) ∧
    (∀ p : StackPair, (s.setStackPair p v).stackPair p = (if p = .af then v &&& 0xFFF0 else v) ∧
      ∀ q, q ≠ p → (s.setStackPair p v).stackPair q = s.stackPair q)

/-- R106 and R107: the 8-bit operand reads its register or the byte at HL, and a write goes to the register, or to memory at HL with
`last_write`, faulting when that address is unmapped. -/
def Obligations.OperandAccess : Prop :=
  ∀ (s : State) (v : Byte),
    (∀ r : Reg8, rd8 (.reg r) s = s.reg r ∧ ∃ t, wr8 (.reg r) v s = .next t ∧ t.reg r = v ∧
      (∀ q, q ≠ r → t.reg q = s.reg q) ∧ t = { s with regs := t.regs } ∧ t.regs.f = s.regs.f) ∧
    rd8 .atHL s = memRead8 s s.hl ∧
    (ByteMapped s s.hl → ∃ t, wr8 .atHL v s = .next t ∧ StoredByte s t s.hl v ∧ SameButStore s t s.hl) ∧
    (s.place s.hl = .unmapped → wr8 .atHL v s = .fault (.unmappedWrite s.hl))

/-! The bus and the stack (spec/20_memory.md, spec/44_load_store.md). -/

/-- R64, R74, R75: a read gives the byte of the cell, or 0xFF when it is unmapped; a write to a mapped cell is seen at once through
every address of that cell and through no other, a write to an unmapped one faults. `MemWrite` also records its address (R78). -/
def Obligations.BusAccess : Prop :=
  ∀ (s : State) (a : Word) (v : Byte),
    (s.place a = .unmapped → busRead s a = 0xFF ∧ busWrite s a v = .fault (.unmappedWrite a) ∧
      memWrite8 s a v = .fault (.unmappedWrite a)) ∧
    (∀ k, s.place a = .mem k → busRead s a = Memory.read s.mem k) ∧
    (s.place a = .ieReg → busRead s a = s.ie) ∧ (s.place a = .ifReg → busRead s a = s.iflag) ∧
    (ByteMapped s a →
      (∃ t, busWrite s a v = .next t ∧ StoredByte s t a v ∧ t = { s with mem := t.mem, ie := t.ie, iflag := t.iflag }) ∧
      (∃ t, memWrite8 s a v = .next t ∧ StoredByte s t a v ∧ SameButStore s t a))

/-- A word stored is read back, by words and by bytes, low byte first; and a pushed word is popped, SP returning where it was when it was
not below 2 (spec/20_memory.md, R77, R79; spec/44_load_store.md, R241, R242; decisions D10, D11, D16). The two bytes of the word must be
two different cells. -/
def Obligations.WordRoundTrip : Prop :=
  ∀ (s : State) (a v : Word),
    (WordMapped s a → s.place a ≠ s.place (a + 1) →
      ∃ t, memWrite16 s a v = .next t ∧ memRead16 t a = v ∧ memRead8 t a = lo8 v ∧ memRead8 t (a + 1) = hi8 v ∧
        t.lastWrite = a) ∧
    (WordMapped s (pushAt s) → s.place (pushAt s) ≠ s.place (pushAt s + 1) →
      ∃ t, push v s = .next t ∧ popValue t = v ∧ (2 ≤ s.sp.toNat → (dropWord t).sp = s.sp) ∧
        (s.sp.toNat < 2 → (dropWord t).sp = s.sp + 2))

/-- R66: `ComponentCreate` of size 0 gives a component without memory; of any other size, one with a new block of that size, every byte
0x00; its range is empty. -/
def Obligations.ComponentCreation : Prop :=
  ∀ (s : State) (size : Nat), s.Inv →
    (size = 0 → componentCreate size s = { s with components := s.components ++ [⟨none, none⟩] }) ∧
    (size ≠ 0 → ∃ id,
      componentCreate size s =
        { s with components := s.components ++ [⟨none, some id⟩], blocks := s.blocks ++ [⟨id, size⟩] } ∧
      (∀ b ∈ s.blocks, b.id + b.size ≤ id) ∧
      ∀ k, id ≤ k → Memory.read (componentCreate size s).mem k = 0x00)

/-- R68: `BusPlug` faults iff an address of the range is mapped, and else is the forced plug with offset 0; and unplugging a component and
plugging it again at the same range succeeds when its block fills it. -/
def Obligations.PlugNeedsFreeRange : Prop :=
  ∀ (s : State) (n : Nat) (first last : Word),
    (SomeMapped s first last → busPlug n first last s = .fault (.addressError .overlap)) ∧
    (¬ SomeMapped s first last → busPlug n first last s = busForcedPlug n first last 0 s) ∧
    (∀ c id, s.components[n]? = some c → c.range = some (first, last) → c.block = some id → first.toNat ≤ last.toNat →
      last.toNat - first.toNat + 1 ≤ blockSize s.blocks id →
      ∃ t u, busUnplug n s = .next t ∧ busPlug n first last t = .next u)

/-- The map after a forced plug, an unplug, and attaching the CPU (spec/20_memory.md, R69, R70; spec/70_reset_and_hazards.md, R364; the
bound with the offset and the empty unplug are the spec's own derivations, the binding decision D3): every cell, and when a forced plug
fails. That a forced plug of a component which already has a range goes through too, replacing that range, is the model's choice: R71 lets a
model refuse it and U6 allows either (log entry 28). -/
def Obligations.MapMoves : Prop :=
  ∀ (s : State) (n : Nat) (c : Component), s.components[n]? = some c →
    (∀ (first last : Word) (offset : Nat),
      ((first.toNat > last.toNat ∨ offset + (last.toNat - first.toNat + 1) > c.size s.blocks) →
        busForcedPlug n first last offset s = .fault (.addressError .range)) ∧
      (first.toNat ≤ last.toNat → offset + (last.toNat - first.toNat + 1) ≤ c.size s.blocks →
        ∃ id t, c.block = some id ∧ busForcedPlug n first last offset s = .next t ∧
          t.components[n]? = some { c with range := some (first, last) } ∧ t.mem = s.mem ∧
          ∀ a, t.place a =
            if first.toNat ≤ a.toNat ∧ a.toNat ≤ last.toNat then .mem (id + (offset + (a.toNat - first.toNat)))
            else s.place a)) ∧
    (c.range = none → busUnplug n s = .next s) ∧
    (∀ first last : Word, c.range = some (first, last) →
      ∃ t, busUnplug n s = .next t ∧ t.components[n]? = some { c with range := none } ∧ t.mem = s.mem ∧
        ∀ a, t.place a = if first.toNat ≤ a.toNat ∧ a.toNat ≤ last.toNat then .unmapped else s.place a) ∧
    (∀ a, (attachCpu s).place a = if a = 0xFFFF then .ieReg else if a = 0xFF0F then .ifReg else s.place a)

/-! Interrupts and the CPU cycle (spec/60_exceptions.md). -/

/-- The pending line (spec/60_exceptions.md, R312; bits 7 to 5 out: decision D3): the lowest bit set in IE, IF and 0x1F, or none. -/
def Obligations.PendingLineIsLowest : Prop :=
  ∀ iflag ie : Byte,
    (ifIeCompare iflag ie = none ↔ iflag &&& ie &&& 0x1F = 0) ∧
    (∀ i : Line, ifIeCompare iflag ie = some i ↔
      iflag.getLsbD (Line.bit i) = true ∧ ie.getLsbD (Line.bit i) = true ∧
        ∀ j, j < Line.bit i → (iflag.getLsbD j && ie.getLsbD j) = false)

/-- Taking an interrupt (spec/60_exceptions.md, R314, R315, R347; line order: decision D4), whatever byte stands at `pc` and whether halted
or not: IME and the line's IF bit cleared, `pc` pushed, `pc` at `0x40 + 8 * i`, the service cost in `idle`, HALT cleared, nothing else; and
it faults when the stack is unmapped. -/
def Obligations.InterruptTaken : Prop :=
  ∀ (s : State) (i : Line), s.idle = 0 → s.ime = true → s.pending = some i →
    (WordMapped s (pushAt s) →
      ∃ t, cpuCycle s = .next t ∧
        StoredWord { s with iflag := s.iflag &&& ~~~(1#8 <<< Line.bit i) } t (pushAt s) s.pc ∧
        SameButStore
          { s with
            ime := false
            halt := false
            sp := pushAt s
            pc := BitVec.ofNat 16 (0x40 + 8 * Line.bit i)
            idle := s.params.intServiceCycles }
          t (pushAt s)) ∧
    (s.place (pushAt s) = .unmapped → cpuCycle s = .fault (.unmappedWrite (pushAt s))) ∧
    (s.place (pushAt s) ≠ .unmapped → s.place (pushAt s + 1) = .unmapped →
      cpuCycle s = .fault (.unmappedWrite (pushAt s + 1)))

/-- Idle and halted cycles (spec/60_exceptions.md, R311, R313; spec/10_state.md, R39, R40): while `idle` is above 0 a CPU cycle only counts
it down; a halted CPU with nothing pending does nothing; with a line pending it goes on as if it were not halted, whatever IME is.
`last_write` is cleared first (decision D10, log entry 20). That what is pending, and what wakes HALT, is taken under the mask 0x1F is
decisions D3 and D23 (log entry 18). -/
def Obligations.IdleAndHaltedCycles : Prop :=
  ∀ s : State,
    (∀ n, s.idle = n + 1 → cpuCycle s = .next { s with lastWrite := 0, idle := n }) ∧
    (s.idle = 0 → s.halt = true → s.iflag &&& s.ie &&& 0x1F = 0 → cpuCycle s = .next { s with lastWrite := 0 }) ∧
    (s.idle = 0 → s.halt = true → s.iflag &&& s.ie &&& 0x1F ≠ 0 → cpuCycle s = cpuCycle { s with halt := false })

/-- A step runs the instruction whose bytes are at `pc` (spec/60_exceptions.md, R311, R316; spec/00_scope.md, R7): when the timer has
counted and the CPU dispatches, the machine cycle is `exec` of the decoded instruction with `last_write` and `scratch` cleared and HALT
left, then the environment's moves, then the listeners. That `last_write` is cleared first is decision D10 and where the environment moves
D25 (log entries 20 and 5); that the CPU dispatches when nothing is pending under the mask 0x1F is D3 and D23 (log entry 18). -/
def Obligations.StepRunsDecodedInstruction : Prop :=
  ∀ (s t : State) (i : Instr) (rest : List Byte), timerCycle s = .next t → t.dispatches →
    decode [busRead t t.pc, busRead t (t.pc + 1), busRead t (t.pc + 2)] = .ok (i, rest) →
    step s = onNext (exec i { t with lastWrite := 0, halt := false, scratch := .empty }) fun u =>
      onNext (envPhase u) fun w => onNext (timerWriteHook w.lastWrite w) fun x => bootHook x.lastWrite x

/-- The bytes of any instruction at `pc`, wherever they lie and across the top of the address space, are dispatched as that instruction
(spec/10_state.md, R25; spec/30_encoding.md, R117; spec/20_memory.md, R62, R90). The bytes are decision D1 (log entry 1); that `last_write`
is cleared before the dispatch is D10 (log entry 20), and that the CPU dispatches when nothing is pending under the mask 0x1F is D3 and D23
(log entry 18). -/
def Obligations.EncodedBytesAreDispatched : Prop :=
  ∀ (s : State) (i : Instr), s.dispatches → BytesAtPc s i.encode →
    cpuCycle s = exec i { s with lastWrite := 0, halt := false, scratch := .empty }

/-- The unknown instruction (spec/60_exceptions.md, R341; which bytes are undefined: spec/30_encoding.md, R116, decision D21): the CPU
faults so exactly when it reaches a dispatch with one of the eleven undefined bytes at `pc` (the mask 0x1F of what is
pending instead: decisions D3 and D23, log entry 18). -/
def Obligations.UnknownInstructionFault : Prop :=
  ∀ (s : State) (op : Byte) (p : Word),
    cpuCycle s = .fault (.unknownInstruction op p) ↔
      s.dispatches ∧ p = s.pc ∧ op = busRead s s.pc ∧
        op ∈ [0xD3, 0xDB, 0xDD, 0xE3, 0xE4, 0xEB, 0xEC, 0xED, 0xF4, 0xFC, 0xFD]

/-- Address errors are recovered (spec/20_memory.md, R72; spec/60_exceptions.md, R343): in a run, a mapping move that fails with an address
error changes nothing and the moves after it go on (that they go on at once is the model's choice: log entry 8); in assembly every failure
is fatal (spec/70_reset_and_hazards.md, R363); and no machine cycle ever ends in an address error or in a refusal. -/
def Obligations.AddressErrorsAreRecovered : Prop :=
  (∀ (s : State) (m : EnvMove) (ms : List EnvMove) (r : AddressReason), applyMove m s = .fault (.addressError r) →
    applyMoves (m :: ms) s = applyMoves ms s) ∧
  (∀ (s t : State) (done ms : List EnvMove) (m : EnvMove) (f : Fault), assemble done s = .next t → applyMove m t = .fault f →
    assemble (done ++ m :: ms) s = .fault f) ∧
  (∀ (s : State) (r : AddressReason), step s ≠ .fault (.addressError r)) ∧
  (∀ (s : State) (r : Refusal), step s ≠ .refused r)

/-! The timer and the listeners (spec/60_exceptions.md section 3, spec/20_memory.md R84). -/

/-- TIMA counts up, or from 0xFF reloads from TMA and requests TIMER in the same step; `last_write` stays; an unmapped TIMA faults
(spec/60_exceptions.md, R333). That TIMER is bit 2 of IF is decision D4 (log entry 14), and where TIMA and TMA stand is D7 (log entry
4). -/
def Obligations.TimaIncrementAndReload : Prop :=
  ∀ s : State,
    (s.place Config.timaAddr = .unmapped → timaIncrement s = .fault (.unmappedWrite Config.timaAddr)) ∧
    (ByteMapped s Config.timaAddr →
      ∃ t, StoredByte s t Config.timaAddr
          (if busRead s Config.timaAddr = 0xFF then busRead s Config.tmaAddr else busRead s Config.timaAddr + 1) ∧
        t = { s with mem := t.mem, ie := t.ie, iflag := t.iflag } ∧
        timaIncrement s =
          .next (if busRead s Config.timaAddr = 0xFF then { t with iflag := t.iflag ||| 0x04 } else t))

/-- One timer cycle (spec/60_exceptions.md, R330 to R333; increment, addresses and latch: decisions D6 to D8, log entries 2, 4, 11; TIMER as
bit 2 of IF: D4, log entry 14), when the four timer cells are distinct bytes: the counter, DIV, TIMA, the TIMER request and the latch, and
nothing else, in any byte of the store that has an address or has none. -/
def Obligations.TimerCycleCounts : Prop :=
  ∀ s : State, Memory.wf s.mem = true → TimerMapped s →
    let counter := s.counter + BitVec.ofNat 16 s.params.timerInc
    let tac := busRead s 0xFF07
    let edge := tapState tac s.counter && !tapState tac counter
    ∃ t, timerCycle s = .next t ∧
      t = { s with counter := counter, tapPrev := tapState tac counter, iflag := countedIF s edge, mem := t.mem } ∧
      (∀ b, busRead t b =
        if s.place b = s.place 0xFF04 then hi8 counter else countedRead s edge b (busRead s b)) ∧
      ∀ k, Memory.read t.mem k = if s.place 0xFF04 = .mem k then hi8 counter else countedByte s edge k

/-- The timer's reaction to a CPU store (spec/60_exceptions.md, R334; the latch: decision D8, log entry 11; DIV, TIMA, TMA and TAC at 0xFF04
to 0xFF07: D7, log entry 4; TIMER as bit 2 of IF: D4, log entry 14), when the four timer cells are distinct bytes: a store to DIV clears the
counter, one to TAC compares with the latch, a falling tap counts once; any other address does nothing. -/
def Obligations.TimerHookReacts : Prop :=
  ∀ (s : State) (a : Word), Memory.wf s.mem = true → TimerMapped s →
    let tac := busRead s 0xFF07
    let now := tapState tac s.counter
    (a = 0xFF04 → ∃ t, timerWriteHook a s = .next t ∧
      t = { s with counter := 0, tapPrev := false, iflag := countedIF s now, mem := t.mem } ∧
      (∀ b, busRead t b = countedRead s now b (busRead s b)) ∧ ∀ k, Memory.read t.mem k = countedByte s now k) ∧
    (a = 0xFF07 → ∃ t, timerWriteHook a s = .next t ∧
      t = { s with tapPrev := now, iflag := countedIF s (s.tapPrev && !now), mem := t.mem } ∧
      (∀ b, busRead t b = countedRead s (s.tapPrev && !now) b (busRead s b)) ∧
      ∀ k, Memory.read t.mem k = countedByte s (s.tapPrev && !now) k) ∧
    (a ≠ 0xFF04 → a ≠ 0xFF07 → timerWriteHook a s = .next s)

/-- The boot-ROM-disable listener (spec/20_memory.md, R84; decision D17, log entry 13): a store to 0xFF50 while the boot ROM is plugged
shows the cartridge at 0x0000 to 0x7FFF, unmaps the rest of the boot ROM's range, and ends the listener; a store to another address, a store
while the boot ROM is not plugged, and any store once the listener has ended do nothing. -/
def Obligations.BootRomDisabledOnce : Prop :=
  ∀ (s : State) (a : Word),
    (s.bootListener = none ∨ a ≠ 0xFF50 → bootHook a s = .next s) ∧
    (∀ l : BootListener, s.bootListener = some l → (∀ boot, s.components[l.boot]? = some boot → boot.range = none) →
      bootHook a s = .next s) ∧
    (∀ (l : BootListener) (boot cart : Component) (first last : Word) (id : Nat),
      s.bootListener = some l → s.components[l.boot]? = some boot → boot.range = some (first, last) →
      s.components[l.cartridge]? = some cart → cart.block = some id → 0x8000 ≤ blockSize s.blocks id → l.boot ≠ l.cartridge →
      ∃ t, bootHook 0xFF50 s = .next t ∧ t.bootListener = none ∧
        t.components[l.boot]? = some { boot with range := none } ∧
        t.components[l.cartridge]? = some { cart with range := some (0x0000, 0x7FFF) } ∧
        (∀ x, t.place x =
          if x.toNat < 0x8000 then .mem (id + x.toNat)
          else if first.toNat ≤ x.toNat ∧ x.toNat ≤ last.toNat then .unmapped else s.place x) ∧
        t = { s with cells := t.cells, components := t.components, bootListener := none })

/-! Decoding (spec/30_encoding.md; the whole opcode map is decision D1, log entry 1). -/

/-- Words written out from the encodings of spec/30_encoding.md (R114, R115) decode to the instructions they stand for. The last two clauses
read a number as a word with its first byte in the low bits, which is the model's own choice of numbering where R122 gives the table's
(first byte high) for a 0xCB row (log entry 7). -/
def Obligations.DecodeSampleWords : Prop :=
  decode [0b01000001] = .ok (.ldBC, []) ∧ decode [0b10000110] = .ok (.addAAtHL, []) ∧
  decode [0b00100001, 0xA0, 0xFE] = .ok (.ldHLN16 0xFEA0, []) ∧ decode [0b00111000, 0x10] = .ok (.jrCE8 0x10, []) ∧
  decode [0b11001011, 0b01111111] = .ok (.bit7A, []) ∧ decode [0b11001011, 0b00110110] = .ok (.swapAtHL, []) ∧
  decode [0b11110101] = .ok (.pushAF, []) ∧ decode [0b11101111] = .ok (.rst28, []) ∧
  decodeTableWord 16 0x05C6 = some (.addAN8 0x05) ∧ decodeTableWord 16 0x11CB = some .rlC

/-- Decode and encode agree for every instruction, every operand value and whatever follows. -/
def Obligations.DecodeEncode : Prop :=
  ∀ (i : Instr) (rest : List Byte), decode (i.encode ++ rest) = .ok (i, rest)

/-- The other direction: bytes that are exactly one instruction decode, nothing left, to one whose encoding they are, but for STOP, whose
second byte is free (spec/30_encoding.md, R116, R117); any other bytes that are exactly one undefined opcode, with anything after it, are
rejected. -/
def Obligations.EncodeDecode : Prop :=
  (∀ bs : List Byte, wellFormedBytes bs = true →
    ∃ i, decode bs = .ok (i, []) ∧ (i.encode = bs ∨ (i = .stop ∧ ∃ b, bs = [0x10, b])) ∧ bs.length = i.row.bytes) ∧
  (∀ (op : Byte) (rest : List Byte), op ∈ undefinedOpcodes → ∃ e, decode (op :: rest) = .error e)

/-! Reset and the invariant (spec/70_reset_and_hazards.md, spec/10_state.md). -/

/-- What reset leaves in the registers and at every address, and that the assembly of the platform leads there
(spec/70_reset_and_hazards.md, R361 to R363; spec/10_state.md, R51). The zeros are decision D12 and the map D17 (log entries 12 and 13);
that every ROM byte reads 0x00 is the model's choice: no image is loaded (log entry 7). -/
def Obligations.ResetValues : Prop :=
  State.reset.regs =
    { a := 0, f := { z := false, n := false, h := false, c := false }, b := 0, c := 0, d := 0, e := 0, h := 0, l := 0 } ∧
  State.reset.pc = 0x0000 ∧ State.reset.sp = 0x0000 ∧ State.reset.ime = false ∧ State.reset.ie = 0 ∧
  State.reset.iflag = 0 ∧ State.reset.halt = false ∧ State.reset.idle = 0 ∧ State.reset.lastWrite = 0 ∧
  State.reset.counter = 0 ∧ State.reset.tapPrev = false ∧
  State.reset.scratch = { value := 0, flags := { z := false, n := false, h := false, c := false } } ∧
  assemblePlatform = .next State.reset ∧
  (∀ a, busRead State.reset a = if 0xFEA0 ≤ a.toNat ∧ a.toNat ≤ 0xFEFF then 0xFF else 0x00) ∧
  (∀ a, State.reset.place a = .unmapped ↔ 0xFEA0 ≤ a.toNat ∧ a.toNat ≤ 0xFEFF) ∧
  (∀ a, State.reset.place a = .ieReg ↔ a = 0xFFFF) ∧ (∀ a, State.reset.place a = .ifReg ↔ a = 0xFF0F)

/-- The echo component shares working RAM's block and is plugged at 0xE000 to 0xFDFF; echo RAM is working RAM, byte for byte, and the last
512 bytes of working RAM have no echo (spec/20_memory.md, R83). It is read off the map of reset, whose details and component numbers (2
working RAM, 6 echo) are decision D17 and the model's own order (log entry 13). -/
def Obligations.EchoMirrorsWorkingRam : Prop :=
  (∃ block, State.reset.components[2]? = some ⟨some (0xC000, 0xDFFF), some block⟩ ∧
    State.reset.components[6]? = some ⟨some (0xE000, 0xFDFF), some block⟩) ∧
  (∀ k, k ≤ 0x1DFF → State.reset.place (BitVec.ofNat 16 (0xE000 + k)) = State.reset.place (BitVec.ofNat 16 (0xC000 + k)) ∧
    State.reset.place (BitVec.ofNat 16 (0xC000 + k)) ≠ .unmapped) ∧
  (∀ a b : Word, 0xDE00 ≤ a.toNat → a.toNat ≤ 0xDFFF → State.reset.place b = State.reset.place a → b = a)

/-- The invariant holds at reset. -/
def Obligations.ResetInvariant : Prop := State.reset.Inv

/-- The invariant is kept by every step from every state (spec/20_memory.md, R69: mapped cells point inside their block; spec/10_state.md,
R47: the blocks are all the memory; R40 and R313: `idle` is bounded and 0 while halted). -/
def Obligations.StepKeepsInvariant : Prop :=
  ∀ s t : State, s.Inv → step s = .next t → t.Inv
end

