-- ==== Sys2Proof/Laws/Memory.lean ====
section
/-! SUPPORT. The store: every operation keeps its canonical form, and a read after a write. -/

namespace Sys2Proof.Machine.Memory

theorem wf_cons (c : Host.Cell) (m : List Host.Cell) :
    wf (c :: m) = true ↔ c.2 ≠ blank ∧ (∀ c' ∈ m, c.1 < c'.1) ∧ wf m = true := by
  simp [wf, and_assoc]

/-- An index below every entry reads as an unlisted byte. -/
theorem read_below (m : List Host.Cell) (k : Nat) (h : ∀ c ∈ m, k < c.1) : read m k = blank := by
  induction m with
  | nil => rfl
  | cons c m ih =>
    have hc : c.1 ≠ k := by have := h c (by simp); omega
    simp only [read, hc, if_false]
    exact ih fun c' hc' => h c' (by simp [hc'])

/-- The indices a write leaves listed: the written one and those listed before. -/
theorem write_index (m : List Host.Cell) (k : Nat) (v : Byte) (c : Host.Cell) (hc : c ∈ write m k v) :
    c.1 = k ∨ c ∈ m := by
  induction m with
  | nil =>
    simp only [write] at hc
    split at hc <;> simp_all
  | cons d m ih =>
    simp only [write] at hc
    split at hc
    · split at hc
      · exact .inr hc
      · rcases List.mem_cons.1 hc with rfl | h
        · exact .inl rfl
        · exact .inr h
    · split at hc
      · split at hc
        · exact .inr (List.mem_cons_of_mem _ hc)
        · rcases List.mem_cons.1 hc with rfl | h
          · exact .inl rfl
          · exact .inr (List.mem_cons_of_mem _ h)
      · rcases List.mem_cons.1 hc with h | h
        · exact .inr (by simp [h])
        · rcases ih h with h | h
          · exact .inl h
          · exact .inr (by simp [h])

theorem write_wf (m : List Host.Cell) (k : Nat) (v : Byte) (h : wf m = true) : wf (write m k v) = true := by
  induction m with
  | nil =>
    simp only [write]
    split
    · rfl
    · rename_i hv; simp [wf, hv]
  | cons c m ih =>
    obtain ⟨hb, hlt, hm⟩ := (wf_cons c m).1 h
    simp only [write]
    split
    · rename_i hk
      split
      · exact h
      · rename_i hv
        refine (wf_cons _ _).2 ⟨hv, fun c' hc' => ?_, h⟩
        rcases List.mem_cons.1 hc' with rfl | hc'
        · exact hk
        · exact lt_trans hk (hlt c' hc')
    · split
      · rename_i hk
        split
        · exact hm
        · rename_i hv
          exact (wf_cons _ _).2 ⟨hv, fun c' hc' => hk ▸ hlt c' hc', hm⟩
      · rename_i hk1 hk2
        refine (wf_cons _ _).2 ⟨hb, fun c' hc' => ?_, ih hm⟩
        rcases write_index m k v c' hc' with h' | h'
        · omega
        · exact hlt c' h'

theorem read_write_same (m : List Host.Cell) (k : Nat) (v : Byte) (h : wf m = true) : read (write m k v) k = v := by
  induction m with
  | nil =>
    simp only [write]
    split
    · rename_i hv; simp [read, hv]
    · simp [read]
  | cons c m ih =>
    obtain ⟨hb, hlt, hm⟩ := (wf_cons c m).1 h
    simp only [write]
    split
    · rename_i hk
      split
      · rename_i hv
        rw [hv]
        refine read_below _ _ fun c' hc' => ?_
        rcases List.mem_cons.1 hc' with rfl | hc'
        · exact hk
        · exact lt_trans hk (hlt c' hc')
      · simp [read]
    · split
      · rename_i hk
        split
        · rename_i hv
          rw [hv]
          exact read_below _ _ fun c' hc' => hk ▸ hlt c' hc'
        · simp [read]
      · rename_i hk
        simp only [read]
        rw [if_neg (fun h => hk h.symm)]
        exact ih hm

theorem read_write_other (m : List Host.Cell) (k j : Nat) (v : Byte) (h : wf m = true) (hj : j ≠ k) :
    read (write m k v) j = read m j := by
  induction m with
  | nil =>
    simp only [write]
    split
    · rfl
    · simp [read, hj.symm]
  | cons c m ih =>
    obtain ⟨hb, hlt, hm⟩ := (wf_cons c m).1 h
    simp only [write]
    split
    · split
      · rfl
      · simp [read, hj.symm]
    · split
      · rename_i hk
        have hcj : c.1 ≠ j := fun h => hj (h ▸ hk.symm)
        split
        · simp [read, hcj]
        · simp [read, hj.symm, hcj]
      · simp only [read]
        split
        · rfl
        · exact ih hm

theorem writeAll_wf (m : List Host.Cell) (k : Nat) (vs : List Byte) (h : wf m = true) : wf (writeAll m k vs) = true := by
  induction vs generalizing m k with
  | nil => exact h
  | cons v vs ih => exact ih _ _ (write_wf m k v h)

theorem writeAll_index (m : List Host.Cell) (k : Nat) (vs : List Byte) (c : Host.Cell) (hc : c ∈ writeAll m k vs) :
    (k ≤ c.1 ∧ c.1 < k + vs.length) ∨ c ∈ m := by
  induction vs generalizing m k with
  | nil => exact .inr hc
  | cons v vs ih =>
    rcases ih _ _ hc with h | h
    · exact .inl (by simp; omega)
    · rcases write_index m k v c h with h | h
      · exact .inl (by simp; omega)
      · exact .inr h

end Sys2Proof.Machine.Memory
end

