-- ==== Sys2Proof/Laws/State.lean ====
section
/-! SUPPORT. One lemma per named update of the state and per field it leaves alone, and what each update writes. -/

namespace Sys2Proof.Machine

/-! `setReg` -/
@[simp] theorem setReg_pc (s : State) (r : Reg8) (v : Byte) : (s.setReg r v).pc = s.pc := by cases r <;> rfl
@[simp] theorem setReg_sp (s : State) (r : Reg8) (v : Byte) : (s.setReg r v).sp = s.sp := by cases r <;> rfl
@[simp] theorem setReg_ime (s : State) (r : Reg8) (v : Byte) : (s.setReg r v).ime = s.ime := by cases r <;> rfl
@[simp] theorem setReg_ie (s : State) (r : Reg8) (v : Byte) : (s.setReg r v).ie = s.ie := by cases r <;> rfl
@[simp] theorem setReg_iflag (s : State) (r : Reg8) (v : Byte) : (s.setReg r v).iflag = s.iflag := by cases r <;> rfl
@[simp] theorem setReg_halt (s : State) (r : Reg8) (v : Byte) : (s.setReg r v).halt = s.halt := by cases r <;> rfl
@[simp] theorem setReg_idle (s : State) (r : Reg8) (v : Byte) : (s.setReg r v).idle = s.idle := by cases r <;> rfl
@[simp] theorem setReg_lastWrite (s : State) (r : Reg8) (v : Byte) : (s.setReg r v).lastWrite = s.lastWrite := by cases r <;> rfl
@[simp] theorem setReg_scratch (s : State) (r : Reg8) (v : Byte) : (s.setReg r v).scratch = s.scratch := by cases r <;> rfl
@[simp] theorem setReg_counter (s : State) (r : Reg8) (v : Byte) : (s.setReg r v).counter = s.counter := by cases r <;> rfl
@[simp] theorem setReg_tapPrev (s : State) (r : Reg8) (v : Byte) : (s.setReg r v).tapPrev = s.tapPrev := by cases r <;> rfl
@[simp] theorem setReg_cells (s : State) (r : Reg8) (v : Byte) : (s.setReg r v).cells = s.cells := by cases r <;> rfl
@[simp] theorem setReg_components (s : State) (r : Reg8) (v : Byte) : (s.setReg r v).components = s.components := by cases r <;> rfl
@[simp] theorem setReg_blocks (s : State) (r : Reg8) (v : Byte) : (s.setReg r v).blocks = s.blocks := by cases r <;> rfl
@[simp] theorem setReg_mem (s : State) (r : Reg8) (v : Byte) : (s.setReg r v).mem = s.mem := by cases r <;> rfl
@[simp] theorem setReg_params (s : State) (r : Reg8) (v : Byte) : (s.setReg r v).params = s.params := by cases r <;> rfl
@[simp] theorem setReg_env (s : State) (r : Reg8) (v : Byte) : (s.setReg r v).env = s.env := by cases r <;> rfl
@[simp] theorem setReg_bootListener (s : State) (r : Reg8) (v : Byte) : (s.setReg r v).bootListener = s.bootListener := by cases r <;> rfl
/-! `setBC` -/
@[simp] theorem setBC_pc (s : State) (v : Word) : (s.setBC v).pc = s.pc := rfl
@[simp] theorem setBC_sp (s : State) (v : Word) : (s.setBC v).sp = s.sp := rfl
@[simp] theorem setBC_ime (s : State) (v : Word) : (s.setBC v).ime = s.ime := rfl
@[simp] theorem setBC_ie (s : State) (v : Word) : (s.setBC v).ie = s.ie := rfl
@[simp] theorem setBC_iflag (s : State) (v : Word) : (s.setBC v).iflag = s.iflag := rfl
@[simp] theorem setBC_halt (s : State) (v : Word) : (s.setBC v).halt = s.halt := rfl
@[simp] theorem setBC_idle (s : State) (v : Word) : (s.setBC v).idle = s.idle := rfl
@[simp] theorem setBC_lastWrite (s : State) (v : Word) : (s.setBC v).lastWrite = s.lastWrite := rfl
@[simp] theorem setBC_scratch (s : State) (v : Word) : (s.setBC v).scratch = s.scratch := rfl
@[simp] theorem setBC_counter (s : State) (v : Word) : (s.setBC v).counter = s.counter := rfl
@[simp] theorem setBC_tapPrev (s : State) (v : Word) : (s.setBC v).tapPrev = s.tapPrev := rfl
@[simp] theorem setBC_cells (s : State) (v : Word) : (s.setBC v).cells = s.cells := rfl
@[simp] theorem setBC_components (s : State) (v : Word) : (s.setBC v).components = s.components := rfl
@[simp] theorem setBC_blocks (s : State) (v : Word) : (s.setBC v).blocks = s.blocks := rfl
@[simp] theorem setBC_mem (s : State) (v : Word) : (s.setBC v).mem = s.mem := rfl
@[simp] theorem setBC_params (s : State) (v : Word) : (s.setBC v).params = s.params := rfl
@[simp] theorem setBC_env (s : State) (v : Word) : (s.setBC v).env = s.env := rfl
@[simp] theorem setBC_bootListener (s : State) (v : Word) : (s.setBC v).bootListener = s.bootListener := rfl
/-! `setDE` -/
@[simp] theorem setDE_pc (s : State) (v : Word) : (s.setDE v).pc = s.pc := rfl
@[simp] theorem setDE_sp (s : State) (v : Word) : (s.setDE v).sp = s.sp := rfl
@[simp] theorem setDE_ime (s : State) (v : Word) : (s.setDE v).ime = s.ime := rfl
@[simp] theorem setDE_ie (s : State) (v : Word) : (s.setDE v).ie = s.ie := rfl
@[simp] theorem setDE_iflag (s : State) (v : Word) : (s.setDE v).iflag = s.iflag := rfl
@[simp] theorem setDE_halt (s : State) (v : Word) : (s.setDE v).halt = s.halt := rfl
@[simp] theorem setDE_idle (s : State) (v : Word) : (s.setDE v).idle = s.idle := rfl
@[simp] theorem setDE_lastWrite (s : State) (v : Word) : (s.setDE v).lastWrite = s.lastWrite := rfl
@[simp] theorem setDE_scratch (s : State) (v : Word) : (s.setDE v).scratch = s.scratch := rfl
@[simp] theorem setDE_counter (s : State) (v : Word) : (s.setDE v).counter = s.counter := rfl
@[simp] theorem setDE_tapPrev (s : State) (v : Word) : (s.setDE v).tapPrev = s.tapPrev := rfl
@[simp] theorem setDE_cells (s : State) (v : Word) : (s.setDE v).cells = s.cells := rfl
@[simp] theorem setDE_components (s : State) (v : Word) : (s.setDE v).components = s.components := rfl
@[simp] theorem setDE_blocks (s : State) (v : Word) : (s.setDE v).blocks = s.blocks := rfl
@[simp] theorem setDE_mem (s : State) (v : Word) : (s.setDE v).mem = s.mem := rfl
@[simp] theorem setDE_params (s : State) (v : Word) : (s.setDE v).params = s.params := rfl
@[simp] theorem setDE_env (s : State) (v : Word) : (s.setDE v).env = s.env := rfl
@[simp] theorem setDE_bootListener (s : State) (v : Word) : (s.setDE v).bootListener = s.bootListener := rfl
/-! `setHL` -/
@[simp] theorem setHL_pc (s : State) (v : Word) : (s.setHL v).pc = s.pc := rfl
@[simp] theorem setHL_sp (s : State) (v : Word) : (s.setHL v).sp = s.sp := rfl
@[simp] theorem setHL_ime (s : State) (v : Word) : (s.setHL v).ime = s.ime := rfl
@[simp] theorem setHL_ie (s : State) (v : Word) : (s.setHL v).ie = s.ie := rfl
@[simp] theorem setHL_iflag (s : State) (v : Word) : (s.setHL v).iflag = s.iflag := rfl
@[simp] theorem setHL_halt (s : State) (v : Word) : (s.setHL v).halt = s.halt := rfl
@[simp] theorem setHL_idle (s : State) (v : Word) : (s.setHL v).idle = s.idle := rfl
@[simp] theorem setHL_lastWrite (s : State) (v : Word) : (s.setHL v).lastWrite = s.lastWrite := rfl
@[simp] theorem setHL_scratch (s : State) (v : Word) : (s.setHL v).scratch = s.scratch := rfl
@[simp] theorem setHL_counter (s : State) (v : Word) : (s.setHL v).counter = s.counter := rfl
@[simp] theorem setHL_tapPrev (s : State) (v : Word) : (s.setHL v).tapPrev = s.tapPrev := rfl
@[simp] theorem setHL_cells (s : State) (v : Word) : (s.setHL v).cells = s.cells := rfl
@[simp] theorem setHL_components (s : State) (v : Word) : (s.setHL v).components = s.components := rfl
@[simp] theorem setHL_blocks (s : State) (v : Word) : (s.setHL v).blocks = s.blocks := rfl
@[simp] theorem setHL_mem (s : State) (v : Word) : (s.setHL v).mem = s.mem := rfl
@[simp] theorem setHL_params (s : State) (v : Word) : (s.setHL v).params = s.params := rfl
@[simp] theorem setHL_env (s : State) (v : Word) : (s.setHL v).env = s.env := rfl
@[simp] theorem setHL_bootListener (s : State) (v : Word) : (s.setHL v).bootListener = s.bootListener := rfl
/-! `setAF` -/
@[simp] theorem setAF_pc (s : State) (v : Word) : (s.setAF v).pc = s.pc := rfl
@[simp] theorem setAF_sp (s : State) (v : Word) : (s.setAF v).sp = s.sp := rfl
@[simp] theorem setAF_ime (s : State) (v : Word) : (s.setAF v).ime = s.ime := rfl
@[simp] theorem setAF_ie (s : State) (v : Word) : (s.setAF v).ie = s.ie := rfl
@[simp] theorem setAF_iflag (s : State) (v : Word) : (s.setAF v).iflag = s.iflag := rfl
@[simp] theorem setAF_halt (s : State) (v : Word) : (s.setAF v).halt = s.halt := rfl
@[simp] theorem setAF_idle (s : State) (v : Word) : (s.setAF v).idle = s.idle := rfl
@[simp] theorem setAF_lastWrite (s : State) (v : Word) : (s.setAF v).lastWrite = s.lastWrite := rfl
@[simp] theorem setAF_scratch (s : State) (v : Word) : (s.setAF v).scratch = s.scratch := rfl
@[simp] theorem setAF_counter (s : State) (v : Word) : (s.setAF v).counter = s.counter := rfl
@[simp] theorem setAF_tapPrev (s : State) (v : Word) : (s.setAF v).tapPrev = s.tapPrev := rfl
@[simp] theorem setAF_cells (s : State) (v : Word) : (s.setAF v).cells = s.cells := rfl
@[simp] theorem setAF_components (s : State) (v : Word) : (s.setAF v).components = s.components := rfl
@[simp] theorem setAF_blocks (s : State) (v : Word) : (s.setAF v).blocks = s.blocks := rfl
@[simp] theorem setAF_mem (s : State) (v : Word) : (s.setAF v).mem = s.mem := rfl
@[simp] theorem setAF_params (s : State) (v : Word) : (s.setAF v).params = s.params := rfl
@[simp] theorem setAF_env (s : State) (v : Word) : (s.setAF v).env = s.env := rfl
@[simp] theorem setAF_bootListener (s : State) (v : Word) : (s.setAF v).bootListener = s.bootListener := rfl
/-! `setPair` -/
@[simp] theorem setPair_pc (s : State) (p : Reg16) (v : Word) : (s.setPair p v).pc = s.pc := by cases p <;> rfl
@[simp] theorem setPair_ime (s : State) (p : Reg16) (v : Word) : (s.setPair p v).ime = s.ime := by cases p <;> rfl
@[simp] theorem setPair_ie (s : State) (p : Reg16) (v : Word) : (s.setPair p v).ie = s.ie := by cases p <;> rfl
@[simp] theorem setPair_iflag (s : State) (p : Reg16) (v : Word) : (s.setPair p v).iflag = s.iflag := by cases p <;> rfl
@[simp] theorem setPair_halt (s : State) (p : Reg16) (v : Word) : (s.setPair p v).halt = s.halt := by cases p <;> rfl
@[simp] theorem setPair_idle (s : State) (p : Reg16) (v : Word) : (s.setPair p v).idle = s.idle := by cases p <;> rfl
@[simp] theorem setPair_lastWrite (s : State) (p : Reg16) (v : Word) : (s.setPair p v).lastWrite = s.lastWrite := by cases p <;> rfl
@[simp] theorem setPair_scratch (s : State) (p : Reg16) (v : Word) : (s.setPair p v).scratch = s.scratch := by cases p <;> rfl
@[simp] theorem setPair_counter (s : State) (p : Reg16) (v : Word) : (s.setPair p v).counter = s.counter := by cases p <;> rfl
@[simp] theorem setPair_tapPrev (s : State) (p : Reg16) (v : Word) : (s.setPair p v).tapPrev = s.tapPrev := by cases p <;> rfl
@[simp] theorem setPair_cells (s : State) (p : Reg16) (v : Word) : (s.setPair p v).cells = s.cells := by cases p <;> rfl
@[simp] theorem setPair_components (s : State) (p : Reg16) (v : Word) : (s.setPair p v).components = s.components := by cases p <;> rfl
@[simp] theorem setPair_blocks (s : State) (p : Reg16) (v : Word) : (s.setPair p v).blocks = s.blocks := by cases p <;> rfl
@[simp] theorem setPair_mem (s : State) (p : Reg16) (v : Word) : (s.setPair p v).mem = s.mem := by cases p <;> rfl
@[simp] theorem setPair_params (s : State) (p : Reg16) (v : Word) : (s.setPair p v).params = s.params := by cases p <;> rfl
@[simp] theorem setPair_env (s : State) (p : Reg16) (v : Word) : (s.setPair p v).env = s.env := by cases p <;> rfl
@[simp] theorem setPair_bootListener (s : State) (p : Reg16) (v : Word) : (s.setPair p v).bootListener = s.bootListener := by cases p <;> rfl
/-! `setStackPair` -/
@[simp] theorem setStackPair_pc (s : State) (p : StackPair) (v : Word) : (s.setStackPair p v).pc = s.pc := by cases p <;> rfl
@[simp] theorem setStackPair_sp (s : State) (p : StackPair) (v : Word) : (s.setStackPair p v).sp = s.sp := by cases p <;> rfl
@[simp] theorem setStackPair_ime (s : State) (p : StackPair) (v : Word) : (s.setStackPair p v).ime = s.ime := by cases p <;> rfl
@[simp] theorem setStackPair_ie (s : State) (p : StackPair) (v : Word) : (s.setStackPair p v).ie = s.ie := by cases p <;> rfl
@[simp] theorem setStackPair_iflag (s : State) (p : StackPair) (v : Word) : (s.setStackPair p v).iflag = s.iflag := by cases p <;> rfl
@[simp] theorem setStackPair_halt (s : State) (p : StackPair) (v : Word) : (s.setStackPair p v).halt = s.halt := by cases p <;> rfl
@[simp] theorem setStackPair_idle (s : State) (p : StackPair) (v : Word) : (s.setStackPair p v).idle = s.idle := by cases p <;> rfl
@[simp] theorem setStackPair_lastWrite (s : State) (p : StackPair) (v : Word) : (s.setStackPair p v).lastWrite = s.lastWrite := by cases p <;> rfl
@[simp] theorem setStackPair_scratch (s : State) (p : StackPair) (v : Word) : (s.setStackPair p v).scratch = s.scratch := by cases p <;> rfl
@[simp] theorem setStackPair_counter (s : State) (p : StackPair) (v : Word) : (s.setStackPair p v).counter = s.counter := by cases p <;> rfl
@[simp] theorem setStackPair_tapPrev (s : State) (p : StackPair) (v : Word) : (s.setStackPair p v).tapPrev = s.tapPrev := by cases p <;> rfl
@[simp] theorem setStackPair_cells (s : State) (p : StackPair) (v : Word) : (s.setStackPair p v).cells = s.cells := by cases p <;> rfl
@[simp] theorem setStackPair_components (s : State) (p : StackPair) (v : Word) : (s.setStackPair p v).components = s.components := by cases p <;> rfl
@[simp] theorem setStackPair_blocks (s : State) (p : StackPair) (v : Word) : (s.setStackPair p v).blocks = s.blocks := by cases p <;> rfl
@[simp] theorem setStackPair_mem (s : State) (p : StackPair) (v : Word) : (s.setStackPair p v).mem = s.mem := by cases p <;> rfl
@[simp] theorem setStackPair_params (s : State) (p : StackPair) (v : Word) : (s.setStackPair p v).params = s.params := by cases p <;> rfl
@[simp] theorem setStackPair_env (s : State) (p : StackPair) (v : Word) : (s.setStackPair p v).env = s.env := by cases p <;> rfl
@[simp] theorem setStackPair_bootListener (s : State) (p : StackPair) (v : Word) : (s.setStackPair p v).bootListener = s.bootListener := by cases p <;> rfl
/-! `setScratch` -/
@[simp] theorem setScratch_regs (s : State) (r : AluResult) : (s.setScratch r).regs = s.regs := rfl
@[simp] theorem setScratch_pc (s : State) (r : AluResult) : (s.setScratch r).pc = s.pc := rfl
@[simp] theorem setScratch_sp (s : State) (r : AluResult) : (s.setScratch r).sp = s.sp := rfl
@[simp] theorem setScratch_ime (s : State) (r : AluResult) : (s.setScratch r).ime = s.ime := rfl
@[simp] theorem setScratch_ie (s : State) (r : AluResult) : (s.setScratch r).ie = s.ie := rfl
@[simp] theorem setScratch_iflag (s : State) (r : AluResult) : (s.setScratch r).iflag = s.iflag := rfl
@[simp] theorem setScratch_halt (s : State) (r : AluResult) : (s.setScratch r).halt = s.halt := rfl
@[simp] theorem setScratch_idle (s : State) (r : AluResult) : (s.setScratch r).idle = s.idle := rfl
@[simp] theorem setScratch_lastWrite (s : State) (r : AluResult) : (s.setScratch r).lastWrite = s.lastWrite := rfl
@[simp] theorem setScratch_counter (s : State) (r : AluResult) : (s.setScratch r).counter = s.counter := rfl
@[simp] theorem setScratch_tapPrev (s : State) (r : AluResult) : (s.setScratch r).tapPrev = s.tapPrev := rfl
@[simp] theorem setScratch_cells (s : State) (r : AluResult) : (s.setScratch r).cells = s.cells := rfl
@[simp] theorem setScratch_components (s : State) (r : AluResult) : (s.setScratch r).components = s.components := rfl
@[simp] theorem setScratch_blocks (s : State) (r : AluResult) : (s.setScratch r).blocks = s.blocks := rfl
@[simp] theorem setScratch_mem (s : State) (r : AluResult) : (s.setScratch r).mem = s.mem := rfl
@[simp] theorem setScratch_params (s : State) (r : AluResult) : (s.setScratch r).params = s.params := rfl
@[simp] theorem setScratch_env (s : State) (r : AluResult) : (s.setScratch r).env = s.env := rfl
@[simp] theorem setScratch_bootListener (s : State) (r : AluResult) : (s.setScratch r).bootListener = s.bootListener := rfl
/-! `combineFlags` -/
@[simp] theorem combineFlags_pc (zs ns hs cs : FlagSource) (s : State) : (combineFlags zs ns hs cs s).pc = s.pc := rfl
@[simp] theorem combineFlags_sp (zs ns hs cs : FlagSource) (s : State) : (combineFlags zs ns hs cs s).sp = s.sp := rfl
@[simp] theorem combineFlags_ime (zs ns hs cs : FlagSource) (s : State) : (combineFlags zs ns hs cs s).ime = s.ime := rfl
@[simp] theorem combineFlags_ie (zs ns hs cs : FlagSource) (s : State) : (combineFlags zs ns hs cs s).ie = s.ie := rfl
@[simp] theorem combineFlags_iflag (zs ns hs cs : FlagSource) (s : State) : (combineFlags zs ns hs cs s).iflag = s.iflag := rfl
@[simp] theorem combineFlags_halt (zs ns hs cs : FlagSource) (s : State) : (combineFlags zs ns hs cs s).halt = s.halt := rfl
@[simp] theorem combineFlags_idle (zs ns hs cs : FlagSource) (s : State) : (combineFlags zs ns hs cs s).idle = s.idle := rfl
@[simp] theorem combineFlags_lastWrite (zs ns hs cs : FlagSource) (s : State) : (combineFlags zs ns hs cs s).lastWrite = s.lastWrite := rfl
@[simp] theorem combineFlags_scratch (zs ns hs cs : FlagSource) (s : State) : (combineFlags zs ns hs cs s).scratch = s.scratch := rfl
@[simp] theorem combineFlags_counter (zs ns hs cs : FlagSource) (s : State) : (combineFlags zs ns hs cs s).counter = s.counter := rfl
@[simp] theorem combineFlags_tapPrev (zs ns hs cs : FlagSource) (s : State) : (combineFlags zs ns hs cs s).tapPrev = s.tapPrev := rfl
@[simp] theorem combineFlags_cells (zs ns hs cs : FlagSource) (s : State) : (combineFlags zs ns hs cs s).cells = s.cells := rfl
@[simp] theorem combineFlags_components (zs ns hs cs : FlagSource) (s : State) : (combineFlags zs ns hs cs s).components = s.components := rfl
@[simp] theorem combineFlags_blocks (zs ns hs cs : FlagSource) (s : State) : (combineFlags zs ns hs cs s).blocks = s.blocks := rfl
@[simp] theorem combineFlags_mem (zs ns hs cs : FlagSource) (s : State) : (combineFlags zs ns hs cs s).mem = s.mem := rfl
@[simp] theorem combineFlags_params (zs ns hs cs : FlagSource) (s : State) : (combineFlags zs ns hs cs s).params = s.params := rfl
@[simp] theorem combineFlags_env (zs ns hs cs : FlagSource) (s : State) : (combineFlags zs ns hs cs s).env = s.env := rfl
@[simp] theorem combineFlags_bootListener (zs ns hs cs : FlagSource) (s : State) : (combineFlags zs ns hs cs s).bootListener = s.bootListener := rfl
/-! `retire` -/
@[simp] theorem retire_regs (len : Word) (cycles : Nat) (s : State) : (retire len cycles s).regs = s.regs := rfl
@[simp] theorem retire_sp (len : Word) (cycles : Nat) (s : State) : (retire len cycles s).sp = s.sp := rfl
@[simp] theorem retire_ime (len : Word) (cycles : Nat) (s : State) : (retire len cycles s).ime = s.ime := rfl
@[simp] theorem retire_ie (len : Word) (cycles : Nat) (s : State) : (retire len cycles s).ie = s.ie := rfl
@[simp] theorem retire_iflag (len : Word) (cycles : Nat) (s : State) : (retire len cycles s).iflag = s.iflag := rfl
@[simp] theorem retire_halt (len : Word) (cycles : Nat) (s : State) : (retire len cycles s).halt = s.halt := rfl
@[simp] theorem retire_lastWrite (len : Word) (cycles : Nat) (s : State) : (retire len cycles s).lastWrite = s.lastWrite := rfl
@[simp] theorem retire_scratch (len : Word) (cycles : Nat) (s : State) : (retire len cycles s).scratch = s.scratch := rfl
@[simp] theorem retire_counter (len : Word) (cycles : Nat) (s : State) : (retire len cycles s).counter = s.counter := rfl
@[simp] theorem retire_tapPrev (len : Word) (cycles : Nat) (s : State) : (retire len cycles s).tapPrev = s.tapPrev := rfl
@[simp] theorem retire_cells (len : Word) (cycles : Nat) (s : State) : (retire len cycles s).cells = s.cells := rfl
@[simp] theorem retire_components (len : Word) (cycles : Nat) (s : State) : (retire len cycles s).components = s.components := rfl
@[simp] theorem retire_blocks (len : Word) (cycles : Nat) (s : State) : (retire len cycles s).blocks = s.blocks := rfl
@[simp] theorem retire_mem (len : Word) (cycles : Nat) (s : State) : (retire len cycles s).mem = s.mem := rfl
@[simp] theorem retire_params (len : Word) (cycles : Nat) (s : State) : (retire len cycles s).params = s.params := rfl
@[simp] theorem retire_env (len : Word) (cycles : Nat) (s : State) : (retire len cycles s).env = s.env := rfl
@[simp] theorem retire_bootListener (len : Word) (cycles : Nat) (s : State) : (retire len cycles s).bootListener = s.bootListener := rfl
/-! `jumpTo` -/
@[simp] theorem jumpTo_regs (target : Word) (cycles : Nat) (s : State) : (jumpTo target cycles s).regs = s.regs := rfl
@[simp] theorem jumpTo_sp (target : Word) (cycles : Nat) (s : State) : (jumpTo target cycles s).sp = s.sp := rfl
@[simp] theorem jumpTo_ime (target : Word) (cycles : Nat) (s : State) : (jumpTo target cycles s).ime = s.ime := rfl
@[simp] theorem jumpTo_ie (target : Word) (cycles : Nat) (s : State) : (jumpTo target cycles s).ie = s.ie := rfl
@[simp] theorem jumpTo_iflag (target : Word) (cycles : Nat) (s : State) : (jumpTo target cycles s).iflag = s.iflag := rfl
@[simp] theorem jumpTo_halt (target : Word) (cycles : Nat) (s : State) : (jumpTo target cycles s).halt = s.halt := rfl
@[simp] theorem jumpTo_lastWrite (target : Word) (cycles : Nat) (s : State) : (jumpTo target cycles s).lastWrite = s.lastWrite := rfl
@[simp] theorem jumpTo_scratch (target : Word) (cycles : Nat) (s : State) : (jumpTo target cycles s).scratch = s.scratch := rfl
@[simp] theorem jumpTo_counter (target : Word) (cycles : Nat) (s : State) : (jumpTo target cycles s).counter = s.counter := rfl
@[simp] theorem jumpTo_tapPrev (target : Word) (cycles : Nat) (s : State) : (jumpTo target cycles s).tapPrev = s.tapPrev := rfl
@[simp] theorem jumpTo_cells (target : Word) (cycles : Nat) (s : State) : (jumpTo target cycles s).cells = s.cells := rfl
@[simp] theorem jumpTo_components (target : Word) (cycles : Nat) (s : State) : (jumpTo target cycles s).components = s.components := rfl
@[simp] theorem jumpTo_blocks (target : Word) (cycles : Nat) (s : State) : (jumpTo target cycles s).blocks = s.blocks := rfl
@[simp] theorem jumpTo_mem (target : Word) (cycles : Nat) (s : State) : (jumpTo target cycles s).mem = s.mem := rfl
@[simp] theorem jumpTo_params (target : Word) (cycles : Nat) (s : State) : (jumpTo target cycles s).params = s.params := rfl
@[simp] theorem jumpTo_env (target : Word) (cycles : Nat) (s : State) : (jumpTo target cycles s).env = s.env := rfl
@[simp] theorem jumpTo_bootListener (target : Word) (cycles : Nat) (s : State) : (jumpTo target cycles s).bootListener = s.bootListener := rfl
/-! `dropWord` -/
@[simp] theorem dropWord_regs (s : State) : (dropWord s).regs = s.regs := rfl
@[simp] theorem dropWord_pc (s : State) : (dropWord s).pc = s.pc := rfl
@[simp] theorem dropWord_ime (s : State) : (dropWord s).ime = s.ime := rfl
@[simp] theorem dropWord_ie (s : State) : (dropWord s).ie = s.ie := rfl
@[simp] theorem dropWord_iflag (s : State) : (dropWord s).iflag = s.iflag := rfl
@[simp] theorem dropWord_halt (s : State) : (dropWord s).halt = s.halt := rfl
@[simp] theorem dropWord_idle (s : State) : (dropWord s).idle = s.idle := rfl
@[simp] theorem dropWord_lastWrite (s : State) : (dropWord s).lastWrite = s.lastWrite := rfl
@[simp] theorem dropWord_scratch (s : State) : (dropWord s).scratch = s.scratch := rfl
@[simp] theorem dropWord_counter (s : State) : (dropWord s).counter = s.counter := rfl
@[simp] theorem dropWord_tapPrev (s : State) : (dropWord s).tapPrev = s.tapPrev := rfl
@[simp] theorem dropWord_cells (s : State) : (dropWord s).cells = s.cells := rfl
@[simp] theorem dropWord_components (s : State) : (dropWord s).components = s.components := rfl
@[simp] theorem dropWord_blocks (s : State) : (dropWord s).blocks = s.blocks := rfl
@[simp] theorem dropWord_mem (s : State) : (dropWord s).mem = s.mem := rfl
@[simp] theorem dropWord_params (s : State) : (dropWord s).params = s.params := rfl
@[simp] theorem dropWord_env (s : State) : (dropWord s).env = s.env := rfl
@[simp] theorem dropWord_bootListener (s : State) : (dropWord s).bootListener = s.bootListener := rfl
/-! `movePointer` -/
@[simp] theorem movePointer_pc (p : Pointer) (s : State) : (movePointer p s).pc = s.pc := by cases p <;> rfl
@[simp] theorem movePointer_sp (p : Pointer) (s : State) : (movePointer p s).sp = s.sp := by cases p <;> rfl
@[simp] theorem movePointer_ime (p : Pointer) (s : State) : (movePointer p s).ime = s.ime := by cases p <;> rfl
@[simp] theorem movePointer_ie (p : Pointer) (s : State) : (movePointer p s).ie = s.ie := by cases p <;> rfl
@[simp] theorem movePointer_iflag (p : Pointer) (s : State) : (movePointer p s).iflag = s.iflag := by cases p <;> rfl
@[simp] theorem movePointer_halt (p : Pointer) (s : State) : (movePointer p s).halt = s.halt := by cases p <;> rfl
@[simp] theorem movePointer_idle (p : Pointer) (s : State) : (movePointer p s).idle = s.idle := by cases p <;> rfl
@[simp] theorem movePointer_lastWrite (p : Pointer) (s : State) : (movePointer p s).lastWrite = s.lastWrite := by cases p <;> rfl
@[simp] theorem movePointer_scratch (p : Pointer) (s : State) : (movePointer p s).scratch = s.scratch := by cases p <;> rfl
@[simp] theorem movePointer_counter (p : Pointer) (s : State) : (movePointer p s).counter = s.counter := by cases p <;> rfl
@[simp] theorem movePointer_tapPrev (p : Pointer) (s : State) : (movePointer p s).tapPrev = s.tapPrev := by cases p <;> rfl
@[simp] theorem movePointer_cells (p : Pointer) (s : State) : (movePointer p s).cells = s.cells := by cases p <;> rfl
@[simp] theorem movePointer_components (p : Pointer) (s : State) : (movePointer p s).components = s.components := by cases p <;> rfl
@[simp] theorem movePointer_blocks (p : Pointer) (s : State) : (movePointer p s).blocks = s.blocks := by cases p <;> rfl
@[simp] theorem movePointer_mem (p : Pointer) (s : State) : (movePointer p s).mem = s.mem := by cases p <;> rfl
@[simp] theorem movePointer_params (p : Pointer) (s : State) : (movePointer p s).params = s.params := by cases p <;> rfl
@[simp] theorem movePointer_env (p : Pointer) (s : State) : (movePointer p s).env = s.env := by cases p <;> rfl
@[simp] theorem movePointer_bootListener (p : Pointer) (s : State) : (movePointer p s).bootListener = s.bootListener := by cases p <;> rfl
/-! `returnFromCall` -/
@[simp] theorem returnFromCall_regs (cycles : Nat) (s : State) : (returnFromCall cycles s).regs = s.regs := rfl
@[simp] theorem returnFromCall_ime (cycles : Nat) (s : State) : (returnFromCall cycles s).ime = s.ime := rfl
@[simp] theorem returnFromCall_ie (cycles : Nat) (s : State) : (returnFromCall cycles s).ie = s.ie := rfl
@[simp] theorem returnFromCall_iflag (cycles : Nat) (s : State) : (returnFromCall cycles s).iflag = s.iflag := rfl
@[simp] theorem returnFromCall_halt (cycles : Nat) (s : State) : (returnFromCall cycles s).halt = s.halt := rfl
@[simp] theorem returnFromCall_lastWrite (cycles : Nat) (s : State) : (returnFromCall cycles s).lastWrite = s.lastWrite := rfl
@[simp] theorem returnFromCall_scratch (cycles : Nat) (s : State) : (returnFromCall cycles s).scratch = s.scratch := rfl
@[simp] theorem returnFromCall_counter (cycles : Nat) (s : State) : (returnFromCall cycles s).counter = s.counter := rfl
@[simp] theorem returnFromCall_tapPrev (cycles : Nat) (s : State) : (returnFromCall cycles s).tapPrev = s.tapPrev := rfl
@[simp] theorem returnFromCall_cells (cycles : Nat) (s : State) : (returnFromCall cycles s).cells = s.cells := rfl
@[simp] theorem returnFromCall_components (cycles : Nat) (s : State) : (returnFromCall cycles s).components = s.components := rfl
@[simp] theorem returnFromCall_blocks (cycles : Nat) (s : State) : (returnFromCall cycles s).blocks = s.blocks := rfl
@[simp] theorem returnFromCall_mem (cycles : Nat) (s : State) : (returnFromCall cycles s).mem = s.mem := rfl
@[simp] theorem returnFromCall_params (cycles : Nat) (s : State) : (returnFromCall cycles s).params = s.params := rfl
@[simp] theorem returnFromCall_env (cycles : Nat) (s : State) : (returnFromCall cycles s).env = s.env := rfl
@[simp] theorem returnFromCall_bootListener (cycles : Nat) (s : State) : (returnFromCall cycles s).bootListener = s.bootListener := rfl
/-! `returnFromInterrupt` -/
@[simp] theorem returnFromInterrupt_regs (cycles : Nat) (s : State) : (returnFromInterrupt cycles s).regs = s.regs := rfl
@[simp] theorem returnFromInterrupt_ie (cycles : Nat) (s : State) : (returnFromInterrupt cycles s).ie = s.ie := rfl
@[simp] theorem returnFromInterrupt_iflag (cycles : Nat) (s : State) : (returnFromInterrupt cycles s).iflag = s.iflag := rfl
@[simp] theorem returnFromInterrupt_halt (cycles : Nat) (s : State) : (returnFromInterrupt cycles s).halt = s.halt := rfl
@[simp] theorem returnFromInterrupt_lastWrite (cycles : Nat) (s : State) : (returnFromInterrupt cycles s).lastWrite = s.lastWrite := rfl
@[simp] theorem returnFromInterrupt_scratch (cycles : Nat) (s : State) : (returnFromInterrupt cycles s).scratch = s.scratch := rfl
@[simp] theorem returnFromInterrupt_counter (cycles : Nat) (s : State) : (returnFromInterrupt cycles s).counter = s.counter := rfl
@[simp] theorem returnFromInterrupt_tapPrev (cycles : Nat) (s : State) : (returnFromInterrupt cycles s).tapPrev = s.tapPrev := rfl
@[simp] theorem returnFromInterrupt_cells (cycles : Nat) (s : State) : (returnFromInterrupt cycles s).cells = s.cells := rfl
@[simp] theorem returnFromInterrupt_components (cycles : Nat) (s : State) : (returnFromInterrupt cycles s).components = s.components := rfl
@[simp] theorem returnFromInterrupt_blocks (cycles : Nat) (s : State) : (returnFromInterrupt cycles s).blocks = s.blocks := rfl
@[simp] theorem returnFromInterrupt_mem (cycles : Nat) (s : State) : (returnFromInterrupt cycles s).mem = s.mem := rfl
@[simp] theorem returnFromInterrupt_params (cycles : Nat) (s : State) : (returnFromInterrupt cycles s).params = s.params := rfl
@[simp] theorem returnFromInterrupt_env (cycles : Nat) (s : State) : (returnFromInterrupt cycles s).env = s.env := rfl
@[simp] theorem returnFromInterrupt_bootListener (cycles : Nat) (s : State) : (returnFromInterrupt cycles s).bootListener = s.bootListener := rfl
/-! `requestInterrupt` -/
@[simp] theorem requestInterrupt_regs (i : Line) (s : State) : (requestInterrupt i s).regs = s.regs := rfl
@[simp] theorem requestInterrupt_pc (i : Line) (s : State) : (requestInterrupt i s).pc = s.pc := rfl
@[simp] theorem requestInterrupt_sp (i : Line) (s : State) : (requestInterrupt i s).sp = s.sp := rfl
@[simp] theorem requestInterrupt_ime (i : Line) (s : State) : (requestInterrupt i s).ime = s.ime := rfl
@[simp] theorem requestInterrupt_ie (i : Line) (s : State) : (requestInterrupt i s).ie = s.ie := rfl
@[simp] theorem requestInterrupt_halt (i : Line) (s : State) : (requestInterrupt i s).halt = s.halt := rfl
@[simp] theorem requestInterrupt_idle (i : Line) (s : State) : (requestInterrupt i s).idle = s.idle := rfl
@[simp] theorem requestInterrupt_lastWrite (i : Line) (s : State) : (requestInterrupt i s).lastWrite = s.lastWrite := rfl
@[simp] theorem requestInterrupt_scratch (i : Line) (s : State) : (requestInterrupt i s).scratch = s.scratch := rfl
@[simp] theorem requestInterrupt_counter (i : Line) (s : State) : (requestInterrupt i s).counter = s.counter := rfl
@[simp] theorem requestInterrupt_tapPrev (i : Line) (s : State) : (requestInterrupt i s).tapPrev = s.tapPrev := rfl
@[simp] theorem requestInterrupt_cells (i : Line) (s : State) : (requestInterrupt i s).cells = s.cells := rfl
@[simp] theorem requestInterrupt_components (i : Line) (s : State) : (requestInterrupt i s).components = s.components := rfl
@[simp] theorem requestInterrupt_blocks (i : Line) (s : State) : (requestInterrupt i s).blocks = s.blocks := rfl
@[simp] theorem requestInterrupt_mem (i : Line) (s : State) : (requestInterrupt i s).mem = s.mem := rfl
@[simp] theorem requestInterrupt_params (i : Line) (s : State) : (requestInterrupt i s).params = s.params := rfl
@[simp] theorem requestInterrupt_env (i : Line) (s : State) : (requestInterrupt i s).env = s.env := rfl
@[simp] theorem requestInterrupt_bootListener (i : Line) (s : State) : (requestInterrupt i s).bootListener = s.bootListener := rfl
/-! `setLastWrite` -/
@[simp] theorem setLastWrite_regs (s : State) (a : Word) : (s.setLastWrite a).regs = s.regs := rfl
@[simp] theorem setLastWrite_pc (s : State) (a : Word) : (s.setLastWrite a).pc = s.pc := rfl
@[simp] theorem setLastWrite_sp (s : State) (a : Word) : (s.setLastWrite a).sp = s.sp := rfl
@[simp] theorem setLastWrite_ime (s : State) (a : Word) : (s.setLastWrite a).ime = s.ime := rfl
@[simp] theorem setLastWrite_ie (s : State) (a : Word) : (s.setLastWrite a).ie = s.ie := rfl
@[simp] theorem setLastWrite_iflag (s : State) (a : Word) : (s.setLastWrite a).iflag = s.iflag := rfl
@[simp] theorem setLastWrite_halt (s : State) (a : Word) : (s.setLastWrite a).halt = s.halt := rfl
@[simp] theorem setLastWrite_idle (s : State) (a : Word) : (s.setLastWrite a).idle = s.idle := rfl
@[simp] theorem setLastWrite_scratch (s : State) (a : Word) : (s.setLastWrite a).scratch = s.scratch := rfl
@[simp] theorem setLastWrite_counter (s : State) (a : Word) : (s.setLastWrite a).counter = s.counter := rfl
@[simp] theorem setLastWrite_tapPrev (s : State) (a : Word) : (s.setLastWrite a).tapPrev = s.tapPrev := rfl
@[simp] theorem setLastWrite_cells (s : State) (a : Word) : (s.setLastWrite a).cells = s.cells := rfl
@[simp] theorem setLastWrite_components (s : State) (a : Word) : (s.setLastWrite a).components = s.components := rfl
@[simp] theorem setLastWrite_blocks (s : State) (a : Word) : (s.setLastWrite a).blocks = s.blocks := rfl
@[simp] theorem setLastWrite_mem (s : State) (a : Word) : (s.setLastWrite a).mem = s.mem := rfl
@[simp] theorem setLastWrite_params (s : State) (a : Word) : (s.setLastWrite a).params = s.params := rfl
@[simp] theorem setLastWrite_env (s : State) (a : Word) : (s.setLastWrite a).env = s.env := rfl
@[simp] theorem setLastWrite_bootListener (s : State) (a : Word) : (s.setLastWrite a).bootListener = s.bootListener := rfl
/-! `poke` -/
@[simp] theorem poke_regs (s : State) (a : Word) (v : Byte) : (poke s a v).regs = s.regs := by unfold poke; split <;> rfl
@[simp] theorem poke_pc (s : State) (a : Word) (v : Byte) : (poke s a v).pc = s.pc := by unfold poke; split <;> rfl
@[simp] theorem poke_sp (s : State) (a : Word) (v : Byte) : (poke s a v).sp = s.sp := by unfold poke; split <;> rfl
@[simp] theorem poke_ime (s : State) (a : Word) (v : Byte) : (poke s a v).ime = s.ime := by unfold poke; split <;> rfl
@[simp] theorem poke_halt (s : State) (a : Word) (v : Byte) : (poke s a v).halt = s.halt := by unfold poke; split <;> rfl
@[simp] theorem poke_idle (s : State) (a : Word) (v : Byte) : (poke s a v).idle = s.idle := by unfold poke; split <;> rfl
@[simp] theorem poke_lastWrite (s : State) (a : Word) (v : Byte) : (poke s a v).lastWrite = s.lastWrite := by unfold poke; split <;> rfl
@[simp] theorem poke_scratch (s : State) (a : Word) (v : Byte) : (poke s a v).scratch = s.scratch := by unfold poke; split <;> rfl
@[simp] theorem poke_counter (s : State) (a : Word) (v : Byte) : (poke s a v).counter = s.counter := by unfold poke; split <;> rfl
@[simp] theorem poke_tapPrev (s : State) (a : Word) (v : Byte) : (poke s a v).tapPrev = s.tapPrev := by unfold poke; split <;> rfl
@[simp] theorem poke_cells (s : State) (a : Word) (v : Byte) : (poke s a v).cells = s.cells := by unfold poke; split <;> rfl
@[simp] theorem poke_components (s : State) (a : Word) (v : Byte) : (poke s a v).components = s.components := by unfold poke; split <;> rfl
@[simp] theorem poke_blocks (s : State) (a : Word) (v : Byte) : (poke s a v).blocks = s.blocks := by unfold poke; split <;> rfl
@[simp] theorem poke_params (s : State) (a : Word) (v : Byte) : (poke s a v).params = s.params := by unfold poke; split <;> rfl
@[simp] theorem poke_env (s : State) (a : Word) (v : Byte) : (poke s a v).env = s.env := by unfold poke; split <;> rfl
@[simp] theorem poke_bootListener (s : State) (a : Word) (v : Byte) : (poke s a v).bootListener = s.bootListener := by unfold poke; split <;> rfl

/-! What the updates write. -/
@[simp] theorem setLastWrite_lastWrite (s : State) (a : Word) : (s.setLastWrite a).lastWrite = a := rfl
@[simp] theorem setScratch_scratch (s : State) (r : AluResult) : (s.setScratch r).scratch = r := rfl
@[simp] theorem retire_pc (len : Word) (cycles : Nat) (s : State) : (retire len cycles s).pc = s.pc + len := rfl
@[simp] theorem retire_idle (len : Word) (cycles : Nat) (s : State) : (retire len cycles s).idle = s.idle + (cycles - 1) := rfl
@[simp] theorem jumpTo_pc (target : Word) (cycles : Nat) (s : State) : (jumpTo target cycles s).pc = target := rfl
@[simp] theorem jumpTo_idle (target : Word) (cycles : Nat) (s : State) : (jumpTo target cycles s).idle = s.idle + (cycles - 1) := rfl
@[simp] theorem dropWord_sp (s : State) : (dropWord s).sp = s.sp + 2 := rfl
@[simp] theorem setPair_sp_sp (s : State) (v : Word) : (s.setPair .sp v).sp = v := rfl
@[simp] theorem setPair_sp_regs (s : State) (v : Word) : (s.setPair .sp v).regs = s.regs := rfl
@[simp] theorem returnFromCall_idle (cycles : Nat) (s : State) :
    (returnFromCall cycles s).idle = s.idle + (cycles - 1) := rfl
@[simp] theorem returnFromInterrupt_idle (cycles : Nat) (s : State) :
    (returnFromInterrupt cycles s).idle = s.idle + (cycles - 1) := rfl
@[simp] theorem reg_setReg_same (s : State) (r : Reg8) (v : Byte) : (s.setReg r v).reg r = v := by cases r <;> rfl
theorem reg_setReg_other (s : State) (r q : Reg8) (v : Byte) (h : q ≠ r) : (s.setReg r v).reg q = s.reg q := by
  cases r <;> cases q <;> first | rfl | exact absurd rfl h
@[simp] theorem setReg_flags (s : State) (r : Reg8) (v : Byte) : (s.setReg r v).regs.f = s.regs.f := by cases r <;> rfl
@[simp] theorem merge8_lo_hi (w : Word) : merge8 (lo8 w) (hi8 w) = w := by
  apply BitVec.eq_of_getLsbD_eq
  intro i hi
  simp only [merge8, hi8, lo8, BitVec.getLsbD_append, BitVec.getLsbD_extractLsb']
  by_cases h8 : i < 8
  · simp [h8]
  · simp [h8, show i - 8 < 8 by omega, show 8 + (i - 8) = i by omega]
@[simp] theorem lo8_merge8 (low high : Byte) : lo8 (merge8 low high) = low := by
  apply BitVec.eq_of_getLsbD_eq
  intro i hi
  simp only [merge8, lo8, BitVec.getLsbD_extractLsb', BitVec.getLsbD_append]
  simp [hi]
@[simp] theorem hi8_merge8 (low high : Byte) : hi8 (merge8 low high) = high := by
  apply BitVec.eq_of_getLsbD_eq
  intro i hi
  simp only [merge8, hi8, BitVec.getLsbD_extractLsb', BitVec.getLsbD_append]
  simp [hi]
@[simp] theorem hl_setHL (s : State) (v : Word) : (s.setHL v).hl = v := by simp [State.hl, State.setHL]
@[simp] theorem bc_setBC (s : State) (v : Word) : (s.setBC v).bc = v := by simp [State.bc, State.setBC]
@[simp] theorem de_setDE (s : State) (v : Word) : (s.setDE v).de = v := by simp [State.de, State.setDE]
@[simp] theorem lo8_zext16 (v : Byte) : lo8 (zext16 v) = v := by
  apply BitVec.eq_of_getLsbD_eq
  intro i hi
  simp [lo8, zext16, hi, show i < 16 by omega]
@[simp] theorem byteResult_value (v : Byte) (f : Flags) : lo8 (byteResult v f).value = v := by simp [byteResult]
@[simp] theorem byteResult_flags (v : Byte) (f : Flags) : (byteResult v f).flags = f := rfl

/-- R23: the byte of F, read back from a byte written to F, is that byte with its low nibble cleared (R22). -/
theorem toByte_ofByte (v : Byte) : (Flags.ofByte v).toByte = v &&& 0xF0 := by
  revert v
  decide

/-- R23: a flag byte put back in F is the same four flags. -/
@[simp] theorem ofByte_toByte (f : Flags) : Flags.ofByte f.toByte = f := by
  obtain ⟨z, n, h, c⟩ := f
  revert z n h c
  decide

@[simp] theorem af_setAF (s : State) (v : Word) : (s.setAF v).af = v &&& 0xFFF0 := by
  simp only [State.af, State.setAF, toByte_ofByte]
  apply BitVec.eq_of_getLsbD_eq
  intro i hi
  simp only [merge8, hi8, lo8, BitVec.getLsbD_append, BitVec.getLsbD_and, BitVec.getLsbD_extractLsb']
  have : ∀ j : Fin 16, (0xFFF0 : Word).getLsbD j = decide (4 ≤ j.val) := by decide
  have h1 := this ⟨i, hi⟩
  have : ∀ j : Fin 8, (0xF0 : Byte).getLsbD j = decide (4 ≤ j.val) := by decide
  simp only at h1
  rw [h1]
  by_cases h8 : i < 8
  · have h2 := this ⟨i, h8⟩
    simp only at h2
    simp only [h8, h2, if_true]
    simp
  · simp [h8, show 4 ≤ i by omega, show i - 8 < 8 by omega, show 8 + (i - 8) = i by omega]

end Sys2Proof.Machine
end

