-- ==== Sys2Proof/Laws/Bus.lean ====
section
/-! SUPPORT. The bus: what a store changes, what a read after it gives, and what the accesses answer. -/

namespace Sys2Proof.Machine

/-! Results. -/

@[simp] theorem onNext_next (s : State) (f : State → Result) : onNext (.next s) f = f s := rfl
@[simp] theorem onNext_fault (e : Fault) (f : State → Result) : onNext (.fault e) f = .fault e := rfl
@[simp] theorem onNext_refused (e : Refusal) (f : State → Result) : onNext (.refused e) f = .refused e := rfl
@[simp] theorem mapNext_next (s : State) (f : State → State) : mapNext (.next s) f = .next (f s) := rfl
@[simp] theorem mapNext_fault (e : Fault) (f : State → State) : mapNext (.fault e) f = .fault e := rfl
@[simp] theorem mapNext_refused (e : Refusal) (f : State → State) : mapNext (.refused e) f = .refused e := rfl

theorem onNext_eq_next {r : Result} {f : State → Result} {t : State} (h : onNext r f = .next t) :
    ∃ s, r = .next s ∧ f s = .next t := by
  cases r with
  | next s => exact ⟨s, rfl, h⟩
  | fault e => cases h
  | refused e => cases h

theorem mapNext_eq_next {r : Result} {f : State → State} {t : State} (h : mapNext r f = .next t) :
    ∃ s, r = .next s ∧ t = f s := by
  obtain ⟨s, hr, hs⟩ := onNext_eq_next h
  exact ⟨s, hr, by cases hs; rfl⟩

/-! The map. -/

@[simp] theorem place_poke (s : State) (a b : Word) (v : Byte) : (poke s a v).place b = s.place b := by
  simp [State.place]

/-- The place of an address depends on the cell map alone. -/
theorem place_congr {s t : State} (h : t.cells = s.cells) (a : Word) : t.place a = s.place a := by
  simp [State.place, h]

/-- A read depends on the cell map, the store, IE and IF alone. -/
theorem busRead_congr {s t : State} (hc : t.cells = s.cells) (hm : t.mem = s.mem) (he : t.ie = s.ie)
    (hf : t.iflag = s.iflag) (a : Word) : busRead t a = busRead s a := by
  simp [busRead, place_congr hc, hm, he, hf]

/-- A read after a store: the stored byte at every address of the same cell, the old byte elsewhere (R64, R75). -/
theorem busRead_poke (s : State) (a b : Word) (v : Byte) (hm : Memory.wf s.mem = true) (ha : s.place a ≠ .unmapped) :
    busRead (poke s a v) b = if s.place b = s.place a then v else busRead s b := by
  unfold busRead
  rw [place_poke]
  unfold poke
  cases hpa : s.place a with
  | unmapped => exact absurd hpa ha
  | ieReg => cases s.place b <;> simp
  | ifReg => cases s.place b <;> simp
  | mem k =>
    cases s.place b with
    | mem j =>
      by_cases hjk : j = k
      · simp [hjk, Memory.read_write_same _ _ _ hm]
      · simp [hjk, Memory.read_write_other _ _ _ _ hm hjk]
    | _ => simp

/-- A byte of the store after a store. -/
theorem memRead_poke (s : State) (a : Word) (v : Byte) (k : Nat) (hm : Memory.wf s.mem = true) :
    Memory.read (poke s a v).mem k = if s.place a = .mem k then v else Memory.read s.mem k := by
  unfold poke
  cases hpa : s.place a with
  | mem j =>
    by_cases hj : j = k
    · subst hj; simp [Memory.read_write_same _ _ _ hm]
    · simp [hj, Memory.read_write_other _ _ _ _ hm (Ne.symm hj)]
  | _ => simp

theorem ie_poke (s : State) (a : Word) (v : Byte) :
    (poke s a v).ie = if s.place a = .ieReg then v else s.ie := by
  unfold poke; cases s.place a <;> simp

theorem iflag_poke (s : State) (a : Word) (v : Byte) :
    (poke s a v).iflag = if s.place a = .ifReg then v else s.iflag := by
  unfold poke; cases s.place a <;> simp

/-- A store changes the contents of the store, IE and IF, and nothing else. -/
theorem poke_frame (s : State) (a : Word) (v : Byte) :
    poke s a v = { s with mem := (poke s a v).mem, ie := (poke s a v).ie, iflag := (poke s a v).iflag } := by
  unfold poke; split <;> rfl

theorem wf_poke (s : State) (a : Word) (v : Byte) (hm : Memory.wf s.mem = true) :
    Memory.wf (poke s a v).mem = true := by
  unfold poke
  split <;> first | exact hm | exact Memory.write_wf _ _ _ hm

/-! The map and a range of it. -/

theorem placeOf_unmapped (g : Segment) (a : Word) : g.placeOf a = .unmapped ↔ g.target = .unmapped := by
  unfold Segment.placeOf; split <;> simp_all

/-- The search by stretches finds a mapped address exactly when the range has one (R68). -/
theorem rangeMapped_iff (gs : List Segment) (lo hi : Nat) (hh : hi < 65536) :
    rangeMapped gs lo hi = true ↔ ∃ a : Word, lo ≤ a.toNat ∧ a.toNat ≤ hi ∧ placeIn gs a ≠ .unmapped := by
  induction gs generalizing lo hi with
  | nil => simp [rangeMapped, placeIn]
  | cons g gs ih =>
    have out : ∀ a : Word, (a.toNat < g.first.toNat ∨ g.last.toNat < a.toNat) → placeIn (g :: gs) a = placeIn gs a := by
      intro a ha
      simp only [placeIn]
      rw [if_neg]
      simp only [Segment.holds, decide_eq_true_eq]
      omega
    have inside : ∀ a : Word, g.first.toNat ≤ a.toNat → a.toNat ≤ g.last.toNat → placeIn (g :: gs) a = g.placeOf a := by
      intro a h1 h2
      simp only [placeIn]
      rw [if_pos]
      simp [Segment.holds, h1, h2]
    simp only [rangeMapped]
    split_ifs with h1 h2 h3
    · simp only [false_iff]
      rintro ⟨a, _, _, _⟩
      omega
    · rw [ih lo hi hh]
      exact exists_congr fun a => and_congr_right fun _ => and_congr_right fun _ => by rw [out a (by omega)]
    · simp only [true_iff]
      have ha : (BitVec.ofNat 16 (max lo g.first.toNat)).toNat = max lo g.first.toNat := by
        have := g.first.isLt
        simp only [BitVec.toNat_ofNat]
        exact Nat.mod_eq_of_lt (by omega)
      refine ⟨_, by rw [ha]; omega, by rw [ha]; omega, ?_⟩
      rw [inside _ (by rw [ha]; omega) (by rw [ha]; omega), ne_eq, placeOf_unmapped]
      exact h3
    · have hf := g.first.isLt
      simp only [Bool.or_eq_true, Bool.and_eq_true, decide_eq_true_eq]
      rw [ih _ _ (by omega), ih _ _ hh]
      constructor
      · rintro (⟨_, a, ha, hb, hc⟩ | ⟨_, a, ha, hb, hc⟩)
        · exact ⟨a, ha, by omega, by rw [out a (by omega)]; exact hc⟩
        · exact ⟨a, by omega, hb, by rw [out a (by omega)]; exact hc⟩
      · rintro ⟨a, ha, hb, hc⟩
        by_cases hlo : a.toNat < g.first.toNat
        · exact .inl ⟨by omega, a, ha, by omega, by rw [← out a (by omega)]; exact hc⟩
        · by_cases hhi : g.last.toNat < a.toNat
          · exact .inr ⟨by omega, a, by omega, hb, by rw [← out a (by omega)]; exact hc⟩
          · rw [inside a (by omega) (by omega), ne_eq, placeOf_unmapped] at hc
            exact absurd hc h3

/-! The accesses. -/

theorem busWrite_mapped (s : State) (a : Word) (v : Byte) (h : s.place a ≠ .unmapped) :
    busWrite s a v = .next (poke s a v) := by simp [busWrite, h]

theorem busWrite_unmapped (s : State) (a : Word) (v : Byte) (h : s.place a = .unmapped) :
    busWrite s a v = .fault (.unmappedWrite a) := by simp [busWrite, h]

theorem busWrite_eq_next {s t : State} {a : Word} {v : Byte} (h : busWrite s a v = .next t) :
    s.place a ≠ .unmapped ∧ t = poke s a v := by
  unfold busWrite at h
  split at h
  · cases h
  · exact ⟨‹_›, by cases h; rfl⟩

theorem memWrite8_mapped (s : State) (a : Word) (v : Byte) (h : s.place a ≠ .unmapped) :
    memWrite8 s a v = .next ((poke s a v).setLastWrite a) := by simp [memWrite8, busWrite_mapped s a v h]

theorem memWrite8_unmapped (s : State) (a : Word) (v : Byte) (h : s.place a = .unmapped) :
    memWrite8 s a v = .fault (.unmappedWrite a) := by simp [memWrite8, busWrite_unmapped s a v h]

theorem memWrite8_eq_next {s t : State} {a : Word} {v : Byte} (h : memWrite8 s a v = .next t) :
    s.place a ≠ .unmapped ∧ t = (poke s a v).setLastWrite a := by
  obtain ⟨u, hu, rfl⟩ := mapNext_eq_next h
  obtain ⟨ha, rfl⟩ := busWrite_eq_next hu
  exact ⟨ha, rfl⟩

theorem memWrite16_mapped (s : State) (a : Word) (v : Word) (h : s.place a ≠ .unmapped)
    (h' : s.place (a + 1) ≠ .unmapped) :
    memWrite16 s a v = .next ((poke (poke s a (lo8 v)) (a + 1) (hi8 v)).setLastWrite a) := by
  rw [memWrite16, busWrite_mapped s a _ h, onNext_next, busWrite_mapped _ _ _ (by rwa [place_poke]), mapNext_next]

theorem memWrite16_unmapped_low (s : State) (a : Word) (v : Word) (h : s.place a = .unmapped) :
    memWrite16 s a v = .fault (.unmappedWrite a) := by simp [memWrite16, busWrite_unmapped s a _ h]

theorem memWrite16_unmapped_high (s : State) (a : Word) (v : Word) (h : s.place a ≠ .unmapped)
    (h' : s.place (a + 1) = .unmapped) : memWrite16 s a v = .fault (.unmappedWrite (a + 1)) := by
  rw [memWrite16, busWrite_mapped s a _ h, onNext_next, busWrite_unmapped _ _ _ (by rwa [place_poke]), mapNext_fault]

theorem memWrite16_eq_next {s t : State} {a v : Word} (h : memWrite16 s a v = .next t) :
    s.place a ≠ .unmapped ∧ s.place (a + 1) ≠ .unmapped ∧
      t = (poke (poke s a (lo8 v)) (a + 1) (hi8 v)).setLastWrite a := by
  obtain ⟨u, hu, hu'⟩ := onNext_eq_next h
  obtain ⟨ha, rfl⟩ := busWrite_eq_next hu
  obtain ⟨w, hw, rfl⟩ := mapNext_eq_next hu'
  obtain ⟨hb, rfl⟩ := busWrite_eq_next hw
  exact ⟨ha, by rwa [place_poke] at hb, rfl⟩

/-! The store stays inside the blocks. -/

theorem blockSize_le_storeSize (bs : List Block) (id base : Nat) (h : blocksLaid base bs = true)
    (hs : 0 < blockSize bs id) : id + blockSize bs id ≤ base + storeSize bs := by
  induction bs generalizing base with
  | nil => simp [blockSize] at hs
  | cons b bs ih =>
    simp only [blocksLaid, Bool.and_eq_true, beq_iff_eq, decide_eq_true_eq] at h
    simp only [blockSize] at hs ⊢
    simp only [storeSize, List.map_cons, List.sum_cons]
    split
    · rename_i hid; omega
    · rename_i hid
      rw [if_neg hid] at hs
      have := ih _ h.2 hs
      simp only [storeSize] at this
      omega

/-- An address of a map that points inside its blocks refers to a byte of the store. -/
theorem place_in_store (bs : List Block) (gs : List Segment) (a : Word) (k : Nat) (hl : blocksLaid 0 bs = true)
    (hb : gs.all (segmentInBounds bs) = true) (hp : placeIn gs a = .mem k) : k < storeSize bs := by
  induction gs with
  | nil => cases hp
  | cons g gs ih =>
    simp only [List.all_cons, Bool.and_eq_true] at hb
    simp only [placeIn] at hp
    split at hp
    · rename_i hg
      simp only [Segment.holds, decide_eq_true_eq] at hg
      unfold Segment.placeOf at hp
      split at hp <;> try cases hp
      rename_i id offset hgt
      have h1 := hb.1
      simp only [segmentInBounds, hgt, Bool.and_eq_true, decide_eq_true_eq] at h1
      have := blockSize_le_storeSize bs id 0 hl (by omega)
      omega
    · exact ih hb.2 hp

theorem bytesInBlocks_write (bs : List Block) (m : List Host.Cell) (k : Nat) (v : Byte)
    (h : bytesInBlocks bs m = true) (hk : k < storeSize bs) : bytesInBlocks bs (Memory.write m k v) = true := by
  simp only [bytesInBlocks, List.all_eq_true, decide_eq_true_eq] at h ⊢
  intro c hc
  rcases Memory.write_index m k v c hc with h' | h'
  · omega
  · exact h c h'

theorem bytesInBlocks_poke (s : State) (a : Word) (v : Byte) (h : bytesInBlocks s.blocks s.mem = true)
    (hl : blocksLaid 0 s.blocks = true) (hb : s.cells.all (segmentInBounds s.blocks) = true) :
    bytesInBlocks s.blocks (poke s a v).mem = true := by
  unfold poke
  split <;> try exact h
  exact bytesInBlocks_write _ _ _ _ h (place_in_store _ _ a _ hl hb (by assumption))

end Sys2Proof.Machine
end

