-- ==== Sys2Proof/Laws/Cases.lean ====
section
/-! SUPPORT. A case split over the instructions by form: what holds of every instruction a form of the opcode map gives holds of every
instruction. -/

namespace Sys2Proof

/-- To prove a fact of every instruction, prove it of each form of R114 and R115, its operand fields free. -/
theorem Instr.by_form {P : Instr → Prop}
    (aluOp : ∀ (x0 : AluOp) (x1 : Operand8), P (Instr.aluOp x0 x1))
    (aluImm : ∀ (x0 : AluOp) (x1 : Byte), P (Instr.aluImm x0 x1))
    (incOp : ∀ (x0 : Operand8), P (Instr.incOp x0))
    (decOp : ∀ (x0 : Operand8), P (Instr.decOp x0))
    (ldRegReg : ∀ (x0 : Reg8) (x1 : Reg8), P (Instr.ldRegReg x0 x1))
    (ldRegMem : ∀ (x0 : Reg8), P (Instr.ldRegMem x0))
    (ldMemReg : ∀ (x0 : Reg8), P (Instr.ldMemReg x0))
    (ldImm : ∀ (x0 : Operand8) (x1 : Byte), P (Instr.ldImm x0 x1))
    (ldPairImm : ∀ (x0 : Reg16) (x1 : Word), P (Instr.ldPairImm x0 x1))
    (addHL : ∀ (x0 : Reg16), P (Instr.addHL x0))
    (incPair : ∀ (x0 : Reg16), P (Instr.incPair x0))
    (decPair : ∀ (x0 : Reg16), P (Instr.decPair x0))
    (ldAPtr : ∀ (x0 : Pointer), P (Instr.ldAPtr x0))
    (ldPtrA : ∀ (x0 : Pointer), P (Instr.ldPtrA x0))
    (pushOp : ∀ (x0 : StackPair), P (Instr.pushOp x0))
    (popOp : ∀ (x0 : StackPair), P (Instr.popOp x0))
    (jrCond : ∀ (x0 : Cond) (x1 : Byte), P (Instr.jrCond x0 x1))
    (jpCond : ∀ (x0 : Cond) (x1 : Word), P (Instr.jpCond x0 x1))
    (callCond : ∀ (x0 : Cond) (x1 : Word), P (Instr.callCond x0 x1))
    (retCond : ∀ (x0 : Cond), P (Instr.retCond x0))
    (rst : ∀ (x0 : Fin 8), P (Instr.rst x0))
    (shiftOp : ∀ (x0 : ShiftOp) (x1 : Operand8), P (Instr.shiftOp x0 x1))
    (bitOp : ∀ (x0 : Fin 8) (x1 : Operand8), P (Instr.bitOp x0 x1))
    (resOp : ∀ (x0 : Fin 8) (x1 : Operand8), P (Instr.resOp x0 x1))
    (setOp : ∀ (x0 : Fin 8) (x1 : Operand8), P (Instr.setOp x0 x1))
    (nop : P (.nop))
    (rlca : P (.rlca))
    (ldAtA16SP : ∀ (a16 : Word), P (.ldAtA16SP a16))
    (rrca : P (.rrca))
    (stop : P (.stop))
    (rla : P (.rla))
    (jrE8 : ∀ (e8 : Byte), P (.jrE8 e8))
    (rra : P (.rra))
    (daa : P (.daa))
    (cpl : P (.cpl))
    (scf : P (.scf))
    (ccf : P (.ccf))
    (halt : P (.halt))
    (jpA16 : ∀ (a16 : Word), P (.jpA16 a16))
    (ret : P (.ret))
    (callA16 : ∀ (a16 : Word), P (.callA16 a16))
    (reti : P (.reti))
    (ldhAtA8A : ∀ (a8 : Byte), P (.ldhAtA8A a8))
    (ldAtCA : P (.ldAtCA))
    (addSPE8 : ∀ (e8 : Byte), P (.addSPE8 e8))
    (jpHL : P (.jpHL))
    (ldAtA16A : ∀ (a16 : Word), P (.ldAtA16A a16))
    (ldhAAtA8 : ∀ (a8 : Byte), P (.ldhAAtA8 a8))
    (ldAAtC : P (.ldAAtC))
    (di : P (.di))
    (ldHLSPE8 : ∀ (e8 : Byte), P (.ldHLSPE8 e8))
    (ldSPHL : P (.ldSPHL))
    (ldAAtA16 : ∀ (a16 : Word), P (.ldAAtA16 a16))
    (ei : P (.ei))
    (i : Instr) : P i :=
  match i with
  | .nop => nop
  | .ldBCN16 n16 => ldPairImm .bc n16
  | .ldAtBCA => ldPtrA .bc
  | .incBC => incPair .bc
  | .incB => incOp (.reg .b)
  | .decB => decOp (.reg .b)
  | .ldBN8 n8 => ldImm (.reg .b) n8
  | .rlca => rlca
  | .ldAtA16SP a16 => ldAtA16SP a16
  | .addHLBC => addHL .bc
  | .ldAAtBC => ldAPtr .bc
  | .decBC => decPair .bc
  | .incC => incOp (.reg .c)
  | .decC => decOp (.reg .c)
  | .ldCN8 n8 => ldImm (.reg .c) n8
  | .rrca => rrca
  | .stop => stop
  | .ldDEN16 n16 => ldPairImm .de n16
  | .ldAtDEA => ldPtrA .de
  | .incDE => incPair .de
  | .incD => incOp (.reg .d)
  | .decD => decOp (.reg .d)
  | .ldDN8 n8 => ldImm (.reg .d) n8
  | .rla => rla
  | .jrE8 e8 => jrE8 e8
  | .addHLDE => addHL .de
  | .ldAAtDE => ldAPtr .de
  | .decDE => decPair .de
  | .incE => incOp (.reg .e)
  | .decE => decOp (.reg .e)
  | .ldEN8 n8 => ldImm (.reg .e) n8
  | .rra => rra
  | .jrNZE8 e8 => jrCond .nz e8
  | .ldHLN16 n16 => ldPairImm .hl n16
  | .ldAtHLIncA => ldPtrA .hlInc
  | .incHL => incPair .hl
  | .incH => incOp (.reg .h)
  | .decH => decOp (.reg .h)
  | .ldHN8 n8 => ldImm (.reg .h) n8
  | .daa => daa
  | .jrZE8 e8 => jrCond .z e8
  | .addHLHL => addHL .hl
  | .ldAAtHLInc => ldAPtr .hlInc
  | .decHL => decPair .hl
  | .incL => incOp (.reg .l)
  | .decL => decOp (.reg .l)
  | .ldLN8 n8 => ldImm (.reg .l) n8
  | .cpl => cpl
  | .jrNCE8 e8 => jrCond .nc e8
  | .ldSPN16 n16 => ldPairImm .sp n16
  | .ldAtHLDecA => ldPtrA .hlDec
  | .incSP => incPair .sp
  | .incAtHL => incOp .atHL
  | .decAtHL => decOp .atHL
  | .ldAtHLN8 n8 => ldImm .atHL n8
  | .scf => scf
  | .jrCE8 e8 => jrCond .c e8
  | .addHLSP => addHL .sp
  | .ldAAtHLDec => ldAPtr .hlDec
  | .decSP => decPair .sp
  | .incA => incOp (.reg .a)
  | .decA => decOp (.reg .a)
  | .ldAN8 n8 => ldImm (.reg .a) n8
  | .ccf => ccf
  | .ldBB => ldRegReg .b .b
  | .ldBC => ldRegReg .b .c
  | .ldBD => ldRegReg .b .d
  | .ldBE => ldRegReg .b .e
  | .ldBH => ldRegReg .b .h
  | .ldBL => ldRegReg .b .l
  | .ldBAtHL => ldRegMem .b
  | .ldBA => ldRegReg .b .a
  | .ldCB => ldRegReg .c .b
  | .ldCC => ldRegReg .c .c
  | .ldCD => ldRegReg .c .d
  | .ldCE => ldRegReg .c .e
  | .ldCH => ldRegReg .c .h
  | .ldCL => ldRegReg .c .l
  | .ldCAtHL => ldRegMem .c
  | .ldCA => ldRegReg .c .a
  | .ldDB => ldRegReg .d .b
  | .ldDC => ldRegReg .d .c
  | .ldDD => ldRegReg .d .d
  | .ldDE => ldRegReg .d .e
  | .ldDH => ldRegReg .d .h
  | .ldDL => ldRegReg .d .l
  | .ldDAtHL => ldRegMem .d
  | .ldDA => ldRegReg .d .a
  | .ldEB => ldRegReg .e .b
  | .ldEC => ldRegReg .e .c
  | .ldED => ldRegReg .e .d
  | .ldEE => ldRegReg .e .e
  | .ldEH => ldRegReg .e .h
  | .ldEL => ldRegReg .e .l
  | .ldEAtHL => ldRegMem .e
  | .ldEA => ldRegReg .e .a
  | .ldHB => ldRegReg .h .b
  | .ldHC => ldRegReg .h .c
  | .ldHD => ldRegReg .h .d
  | .ldHE => ldRegReg .h .e
  | .ldHH => ldRegReg .h .h
  | .ldHL => ldRegReg .h .l
  | .ldHAtHL => ldRegMem .h
  | .ldHA => ldRegReg .h .a
  | .ldLB => ldRegReg .l .b
  | .ldLC => ldRegReg .l .c
  | .ldLD => ldRegReg .l .d
  | .ldLE => ldRegReg .l .e
  | .ldLH => ldRegReg .l .h
  | .ldLL => ldRegReg .l .l
  | .ldLAtHL => ldRegMem .l
  | .ldLA => ldRegReg .l .a
  | .ldAtHLB => ldMemReg .b
  | .ldAtHLC => ldMemReg .c
  | .ldAtHLD => ldMemReg .d
  | .ldAtHLE => ldMemReg .e
  | .ldAtHLH => ldMemReg .h
  | .ldAtHLL => ldMemReg .l
  | .halt => halt
  | .ldAtHLA => ldMemReg .a
  | .ldAB => ldRegReg .a .b
  | .ldAC => ldRegReg .a .c
  | .ldAD => ldRegReg .a .d
  | .ldAE => ldRegReg .a .e
  | .ldAH => ldRegReg .a .h
  | .ldAL => ldRegReg .a .l
  | .ldAAtHL => ldRegMem .a
  | .ldAA => ldRegReg .a .a
  | .addAB => aluOp .add (.reg .b)
  | .addAC => aluOp .add (.reg .c)
  | .addAD => aluOp .add (.reg .d)
  | .addAE => aluOp .add (.reg .e)
  | .addAH => aluOp .add (.reg .h)
  | .addAL => aluOp .add (.reg .l)
  | .addAAtHL => aluOp .add .atHL
  | .addAA => aluOp .add (.reg .a)
  | .adcAB => aluOp .adc (.reg .b)
  | .adcAC => aluOp .adc (.reg .c)
  | .adcAD => aluOp .adc (.reg .d)
  | .adcAE => aluOp .adc (.reg .e)
  | .adcAH => aluOp .adc (.reg .h)
  | .adcAL => aluOp .adc (.reg .l)
  | .adcAAtHL => aluOp .adc .atHL
  | .adcAA => aluOp .adc (.reg .a)
  | .subB => aluOp .sub (.reg .b)
  | .subC => aluOp .sub (.reg .c)
  | .subD => aluOp .sub (.reg .d)
  | .subE => aluOp .sub (.reg .e)
  | .subH => aluOp .sub (.reg .h)
  | .subL => aluOp .sub (.reg .l)
  | .subAtHL => aluOp .sub .atHL
  | .subA => aluOp .sub (.reg .a)
  | .sbcAB => aluOp .sbc (.reg .b)
  | .sbcAC => aluOp .sbc (.reg .c)
  | .sbcAD => aluOp .sbc (.reg .d)
  | .sbcAE => aluOp .sbc (.reg .e)
  | .sbcAH => aluOp .sbc (.reg .h)
  | .sbcAL => aluOp .sbc (.reg .l)
  | .sbcAAtHL => aluOp .sbc .atHL
  | .sbcAA => aluOp .sbc (.reg .a)
  | .andB => aluOp .and (.reg .b)
  | .andC => aluOp .and (.reg .c)
  | .andD => aluOp .and (.reg .d)
  | .andE => aluOp .and (.reg .e)
  | .andH => aluOp .and (.reg .h)
  | .andL => aluOp .and (.reg .l)
  | .andAtHL => aluOp .and .atHL
  | .andA => aluOp .and (.reg .a)
  | .xorB => aluOp .xor (.reg .b)
  | .xorC => aluOp .xor (.reg .c)
  | .xorD => aluOp .xor (.reg .d)
  | .xorE => aluOp .xor (.reg .e)
  | .xorH => aluOp .xor (.reg .h)
  | .xorL => aluOp .xor (.reg .l)
  | .xorAtHL => aluOp .xor .atHL
  | .xorA => aluOp .xor (.reg .a)
  | .orB => aluOp .or (.reg .b)
  | .orC => aluOp .or (.reg .c)
  | .orD => aluOp .or (.reg .d)
  | .orE => aluOp .or (.reg .e)
  | .orH => aluOp .or (.reg .h)
  | .orL => aluOp .or (.reg .l)
  | .orAtHL => aluOp .or .atHL
  | .orA => aluOp .or (.reg .a)
  | .cpB => aluOp .cp (.reg .b)
  | .cpC => aluOp .cp (.reg .c)
  | .cpD => aluOp .cp (.reg .d)
  | .cpE => aluOp .cp (.reg .e)
  | .cpH => aluOp .cp (.reg .h)
  | .cpL => aluOp .cp (.reg .l)
  | .cpAtHL => aluOp .cp .atHL
  | .cpA => aluOp .cp (.reg .a)
  | .retNZ => retCond .nz
  | .popBC => popOp .bc
  | .jpNZA16 a16 => jpCond .nz a16
  | .jpA16 a16 => jpA16 a16
  | .callNZA16 a16 => callCond .nz a16
  | .pushBC => pushOp .bc
  | .addAN8 n8 => aluImm .add n8
  | .rst00 => rst 0
  | .retZ => retCond .z
  | .ret => ret
  | .jpZA16 a16 => jpCond .z a16
  | .callZA16 a16 => callCond .z a16
  | .callA16 a16 => callA16 a16
  | .adcAN8 n8 => aluImm .adc n8
  | .rst08 => rst 1
  | .retNC => retCond .nc
  | .popDE => popOp .de
  | .jpNCA16 a16 => jpCond .nc a16
  | .callNCA16 a16 => callCond .nc a16
  | .pushDE => pushOp .de
  | .subN8 n8 => aluImm .sub n8
  | .rst10 => rst 2
  | .retC => retCond .c
  | .reti => reti
  | .jpCA16 a16 => jpCond .c a16
  | .callCA16 a16 => callCond .c a16
  | .sbcAN8 n8 => aluImm .sbc n8
  | .rst18 => rst 3
  | .ldhAtA8A a8 => ldhAtA8A a8
  | .popHL => popOp .hl
  | .ldAtCA => ldAtCA
  | .pushHL => pushOp .hl
  | .andN8 n8 => aluImm .and n8
  | .rst20 => rst 4
  | .addSPE8 e8 => addSPE8 e8
  | .jpHL => jpHL
  | .ldAtA16A a16 => ldAtA16A a16
  | .xorN8 n8 => aluImm .xor n8
  | .rst28 => rst 5
  | .ldhAAtA8 a8 => ldhAAtA8 a8
  | .popAF => popOp .af
  | .ldAAtC => ldAAtC
  | .di => di
  | .pushAF => pushOp .af
  | .orN8 n8 => aluImm .or n8
  | .rst30 => rst 6
  | .ldHLSPE8 e8 => ldHLSPE8 e8
  | .ldSPHL => ldSPHL
  | .ldAAtA16 a16 => ldAAtA16 a16
  | .ei => ei
  | .cpN8 n8 => aluImm .cp n8
  | .rst38 => rst 7
  | .rlcB => shiftOp .rlc (.reg .b)
  | .rlcC => shiftOp .rlc (.reg .c)
  | .rlcD => shiftOp .rlc (.reg .d)
  | .rlcE => shiftOp .rlc (.reg .e)
  | .rlcH => shiftOp .rlc (.reg .h)
  | .rlcL => shiftOp .rlc (.reg .l)
  | .rlcAtHL => shiftOp .rlc .atHL
  | .rlcA => shiftOp .rlc (.reg .a)
  | .rrcB => shiftOp .rrc (.reg .b)
  | .rrcC => shiftOp .rrc (.reg .c)
  | .rrcD => shiftOp .rrc (.reg .d)
  | .rrcE => shiftOp .rrc (.reg .e)
  | .rrcH => shiftOp .rrc (.reg .h)
  | .rrcL => shiftOp .rrc (.reg .l)
  | .rrcAtHL => shiftOp .rrc .atHL
  | .rrcA => shiftOp .rrc (.reg .a)
  | .rlB => shiftOp .rl (.reg .b)
  | .rlC => shiftOp .rl (.reg .c)
  | .rlD => shiftOp .rl (.reg .d)
  | .rlE => shiftOp .rl (.reg .e)
  | .rlH => shiftOp .rl (.reg .h)
  | .rlL => shiftOp .rl (.reg .l)
  | .rlAtHL => shiftOp .rl .atHL
  | .rlA => shiftOp .rl (.reg .a)
  | .rrB => shiftOp .rr (.reg .b)
  | .rrC => shiftOp .rr (.reg .c)
  | .rrD => shiftOp .rr (.reg .d)
  | .rrE => shiftOp .rr (.reg .e)
  | .rrH => shiftOp .rr (.reg .h)
  | .rrL => shiftOp .rr (.reg .l)
  | .rrAtHL => shiftOp .rr .atHL
  | .rrA => shiftOp .rr (.reg .a)
  | .slaB => shiftOp .sla (.reg .b)
  | .slaC => shiftOp .sla (.reg .c)
  | .slaD => shiftOp .sla (.reg .d)
  | .slaE => shiftOp .sla (.reg .e)
  | .slaH => shiftOp .sla (.reg .h)
  | .slaL => shiftOp .sla (.reg .l)
  | .slaAtHL => shiftOp .sla .atHL
  | .slaA => shiftOp .sla (.reg .a)
  | .sraB => shiftOp .sra (.reg .b)
  | .sraC => shiftOp .sra (.reg .c)
  | .sraD => shiftOp .sra (.reg .d)
  | .sraE => shiftOp .sra (.reg .e)
  | .sraH => shiftOp .sra (.reg .h)
  | .sraL => shiftOp .sra (.reg .l)
  | .sraAtHL => shiftOp .sra .atHL
  | .sraA => shiftOp .sra (.reg .a)
  | .swapB => shiftOp .swap (.reg .b)
  | .swapC => shiftOp .swap (.reg .c)
  | .swapD => shiftOp .swap (.reg .d)
  | .swapE => shiftOp .swap (.reg .e)
  | .swapH => shiftOp .swap (.reg .h)
  | .swapL => shiftOp .swap (.reg .l)
  | .swapAtHL => shiftOp .swap .atHL
  | .swapA => shiftOp .swap (.reg .a)
  | .srlB => shiftOp .srl (.reg .b)
  | .srlC => shiftOp .srl (.reg .c)
  | .srlD => shiftOp .srl (.reg .d)
  | .srlE => shiftOp .srl (.reg .e)
  | .srlH => shiftOp .srl (.reg .h)
  | .srlL => shiftOp .srl (.reg .l)
  | .srlAtHL => shiftOp .srl .atHL
  | .srlA => shiftOp .srl (.reg .a)
  | .bit0B => bitOp 0 (.reg .b)
  | .bit0C => bitOp 0 (.reg .c)
  | .bit0D => bitOp 0 (.reg .d)
  | .bit0E => bitOp 0 (.reg .e)
  | .bit0H => bitOp 0 (.reg .h)
  | .bit0L => bitOp 0 (.reg .l)
  | .bit0AtHL => bitOp 0 .atHL
  | .bit0A => bitOp 0 (.reg .a)
  | .bit1B => bitOp 1 (.reg .b)
  | .bit1C => bitOp 1 (.reg .c)
  | .bit1D => bitOp 1 (.reg .d)
  | .bit1E => bitOp 1 (.reg .e)
  | .bit1H => bitOp 1 (.reg .h)
  | .bit1L => bitOp 1 (.reg .l)
  | .bit1AtHL => bitOp 1 .atHL
  | .bit1A => bitOp 1 (.reg .a)
  | .bit2B => bitOp 2 (.reg .b)
  | .bit2C => bitOp 2 (.reg .c)
  | .bit2D => bitOp 2 (.reg .d)
  | .bit2E => bitOp 2 (.reg .e)
  | .bit2H => bitOp 2 (.reg .h)
  | .bit2L => bitOp 2 (.reg .l)
  | .bit2AtHL => bitOp 2 .atHL
  | .bit2A => bitOp 2 (.reg .a)
  | .bit3B => bitOp 3 (.reg .b)
  | .bit3C => bitOp 3 (.reg .c)
  | .bit3D => bitOp 3 (.reg .d)
  | .bit3E => bitOp 3 (.reg .e)
  | .bit3H => bitOp 3 (.reg .h)
  | .bit3L => bitOp 3 (.reg .l)
  | .bit3AtHL => bitOp 3 .atHL
  | .bit3A => bitOp 3 (.reg .a)
  | .bit4B => bitOp 4 (.reg .b)
  | .bit4C => bitOp 4 (.reg .c)
  | .bit4D => bitOp 4 (.reg .d)
  | .bit4E => bitOp 4 (.reg .e)
  | .bit4H => bitOp 4 (.reg .h)
  | .bit4L => bitOp 4 (.reg .l)
  | .bit4AtHL => bitOp 4 .atHL
  | .bit4A => bitOp 4 (.reg .a)
  | .bit5B => bitOp 5 (.reg .b)
  | .bit5C => bitOp 5 (.reg .c)
  | .bit5D => bitOp 5 (.reg .d)
  | .bit5E => bitOp 5 (.reg .e)
  | .bit5H => bitOp 5 (.reg .h)
  | .bit5L => bitOp 5 (.reg .l)
  | .bit5AtHL => bitOp 5 .atHL
  | .bit5A => bitOp 5 (.reg .a)
  | .bit6B => bitOp 6 (.reg .b)
  | .bit6C => bitOp 6 (.reg .c)
  | .bit6D => bitOp 6 (.reg .d)
  | .bit6E => bitOp 6 (.reg .e)
  | .bit6H => bitOp 6 (.reg .h)
  | .bit6L => bitOp 6 (.reg .l)
  | .bit6AtHL => bitOp 6 .atHL
  | .bit6A => bitOp 6 (.reg .a)
  | .bit7B => bitOp 7 (.reg .b)
  | .bit7C => bitOp 7 (.reg .c)
  | .bit7D => bitOp 7 (.reg .d)
  | .bit7E => bitOp 7 (.reg .e)
  | .bit7H => bitOp 7 (.reg .h)
  | .bit7L => bitOp 7 (.reg .l)
  | .bit7AtHL => bitOp 7 .atHL
  | .bit7A => bitOp 7 (.reg .a)
  | .res0B => resOp 0 (.reg .b)
  | .res0C => resOp 0 (.reg .c)
  | .res0D => resOp 0 (.reg .d)
  | .res0E => resOp 0 (.reg .e)
  | .res0H => resOp 0 (.reg .h)
  | .res0L => resOp 0 (.reg .l)
  | .res0AtHL => resOp 0 .atHL
  | .res0A => resOp 0 (.reg .a)
  | .res1B => resOp 1 (.reg .b)
  | .res1C => resOp 1 (.reg .c)
  | .res1D => resOp 1 (.reg .d)
  | .res1E => resOp 1 (.reg .e)
  | .res1H => resOp 1 (.reg .h)
  | .res1L => resOp 1 (.reg .l)
  | .res1AtHL => resOp 1 .atHL
  | .res1A => resOp 1 (.reg .a)
  | .res2B => resOp 2 (.reg .b)
  | .res2C => resOp 2 (.reg .c)
  | .res2D => resOp 2 (.reg .d)
  | .res2E => resOp 2 (.reg .e)
  | .res2H => resOp 2 (.reg .h)
  | .res2L => resOp 2 (.reg .l)
  | .res2AtHL => resOp 2 .atHL
  | .res2A => resOp 2 (.reg .a)
  | .res3B => resOp 3 (.reg .b)
  | .res3C => resOp 3 (.reg .c)
  | .res3D => resOp 3 (.reg .d)
  | .res3E => resOp 3 (.reg .e)
  | .res3H => resOp 3 (.reg .h)
  | .res3L => resOp 3 (.reg .l)
  | .res3AtHL => resOp 3 .atHL
  | .res3A => resOp 3 (.reg .a)
  | .res4B => resOp 4 (.reg .b)
  | .res4C => resOp 4 (.reg .c)
  | .res4D => resOp 4 (.reg .d)
  | .res4E => resOp 4 (.reg .e)
  | .res4H => resOp 4 (.reg .h)
  | .res4L => resOp 4 (.reg .l)
  | .res4AtHL => resOp 4 .atHL
  | .res4A => resOp 4 (.reg .a)
  | .res5B => resOp 5 (.reg .b)
  | .res5C => resOp 5 (.reg .c)
  | .res5D => resOp 5 (.reg .d)
  | .res5E => resOp 5 (.reg .e)
  | .res5H => resOp 5 (.reg .h)
  | .res5L => resOp 5 (.reg .l)
  | .res5AtHL => resOp 5 .atHL
  | .res5A => resOp 5 (.reg .a)
  | .res6B => resOp 6 (.reg .b)
  | .res6C => resOp 6 (.reg .c)
  | .res6D => resOp 6 (.reg .d)
  | .res6E => resOp 6 (.reg .e)
  | .res6H => resOp 6 (.reg .h)
  | .res6L => resOp 6 (.reg .l)
  | .res6AtHL => resOp 6 .atHL
  | .res6A => resOp 6 (.reg .a)
  | .res7B => resOp 7 (.reg .b)
  | .res7C => resOp 7 (.reg .c)
  | .res7D => resOp 7 (.reg .d)
  | .res7E => resOp 7 (.reg .e)
  | .res7H => resOp 7 (.reg .h)
  | .res7L => resOp 7 (.reg .l)
  | .res7AtHL => resOp 7 .atHL
  | .res7A => resOp 7 (.reg .a)
  | .set0B => setOp 0 (.reg .b)
  | .set0C => setOp 0 (.reg .c)
  | .set0D => setOp 0 (.reg .d)
  | .set0E => setOp 0 (.reg .e)
  | .set0H => setOp 0 (.reg .h)
  | .set0L => setOp 0 (.reg .l)
  | .set0AtHL => setOp 0 .atHL
  | .set0A => setOp 0 (.reg .a)
  | .set1B => setOp 1 (.reg .b)
  | .set1C => setOp 1 (.reg .c)
  | .set1D => setOp 1 (.reg .d)
  | .set1E => setOp 1 (.reg .e)
  | .set1H => setOp 1 (.reg .h)
  | .set1L => setOp 1 (.reg .l)
  | .set1AtHL => setOp 1 .atHL
  | .set1A => setOp 1 (.reg .a)
  | .set2B => setOp 2 (.reg .b)
  | .set2C => setOp 2 (.reg .c)
  | .set2D => setOp 2 (.reg .d)
  | .set2E => setOp 2 (.reg .e)
  | .set2H => setOp 2 (.reg .h)
  | .set2L => setOp 2 (.reg .l)
  | .set2AtHL => setOp 2 .atHL
  | .set2A => setOp 2 (.reg .a)
  | .set3B => setOp 3 (.reg .b)
  | .set3C => setOp 3 (.reg .c)
  | .set3D => setOp 3 (.reg .d)
  | .set3E => setOp 3 (.reg .e)
  | .set3H => setOp 3 (.reg .h)
  | .set3L => setOp 3 (.reg .l)
  | .set3AtHL => setOp 3 .atHL
  | .set3A => setOp 3 (.reg .a)
  | .set4B => setOp 4 (.reg .b)
  | .set4C => setOp 4 (.reg .c)
  | .set4D => setOp 4 (.reg .d)
  | .set4E => setOp 4 (.reg .e)
  | .set4H => setOp 4 (.reg .h)
  | .set4L => setOp 4 (.reg .l)
  | .set4AtHL => setOp 4 .atHL
  | .set4A => setOp 4 (.reg .a)
  | .set5B => setOp 5 (.reg .b)
  | .set5C => setOp 5 (.reg .c)
  | .set5D => setOp 5 (.reg .d)
  | .set5E => setOp 5 (.reg .e)
  | .set5H => setOp 5 (.reg .h)
  | .set5L => setOp 5 (.reg .l)
  | .set5AtHL => setOp 5 .atHL
  | .set5A => setOp 5 (.reg .a)
  | .set6B => setOp 6 (.reg .b)
  | .set6C => setOp 6 (.reg .c)
  | .set6D => setOp 6 (.reg .d)
  | .set6E => setOp 6 (.reg .e)
  | .set6H => setOp 6 (.reg .h)
  | .set6L => setOp 6 (.reg .l)
  | .set6AtHL => setOp 6 .atHL
  | .set6A => setOp 6 (.reg .a)
  | .set7B => setOp 7 (.reg .b)
  | .set7C => setOp 7 (.reg .c)
  | .set7D => setOp 7 (.reg .d)
  | .set7E => setOp 7 (.reg .e)
  | .set7H => setOp 7 (.reg .h)
  | .set7L => setOp 7 (.reg .l)
  | .set7AtHL => setOp 7 .atHL
  | .set7A => setOp 7 (.reg .a)

end Sys2Proof
end

