-- ==== Sys2Proof/Laws/Exec.lean ====
section
/-! SUPPORT. What `exec` runs for each form of the opcode map, and what any instruction may change. -/

namespace Sys2Proof.Machine

/-! The meaning of each form. -/

/-- The meaning of the operation `op` on A (R170 to R177). -/
def aluMeaning (op : AluOp) : (State → Byte) → Word → Nat → State → Result :=
  match op with
  | .add => addA
  | .adc => adcA
  | .sub => subA
  | .sbc => sbcA
  | .and => andA
  | .xor => xorA
  | .or => orA
  | .cp => cpA

/-- The meaning of the rotate or shift `op` (R214 to R221). -/
def shiftMeaning (op : ShiftOp) : Operand8 → Nat → State → Result :=
  match op with
  | .rlc => rlcOn
  | .rrc => rrcOn
  | .rl => rlOn
  | .rr => rrOn
  | .sla => slaOn
  | .sra => sraOn
  | .swap => swapOn
  | .srl => srlOn

theorem exec_aluOp (op : AluOp) (o : Operand8) (s : State) :
    exec (Instr.aluOp op o) s = aluMeaning op (rd8 o) 1 (formCycles o 1 2) s := by
  rcases o with r | _
  · cases op <;> cases r <;> rfl
  · cases op <;> rfl

theorem exec_aluImm (op : AluOp) (n8 : Byte) (s : State) :
    exec (Instr.aluImm op n8) s = aluMeaning op (fun _ => n8) 2 2 s := by
  cases op <;> rfl

theorem exec_incOp (o : Operand8) (s : State) : exec (Instr.incOp o) s = inc8 o (formCycles o 1 3) s := by
  rcases o with r | _
  · cases r <;> rfl
  · rfl

theorem exec_decOp (o : Operand8) (s : State) : exec (Instr.decOp o) s = dec8 o (formCycles o 1 3) s := by
  rcases o with r | _
  · cases r <;> rfl
  · rfl

theorem exec_ldRegReg (dst src : Reg8) (s : State) :
    exec (Instr.ldRegReg dst src) s = loadReg dst (fun t => t.reg src) 1 1 s := by
  cases dst <;> cases src <;> rfl

theorem exec_ldRegMem (dst : Reg8) (s : State) :
    exec (Instr.ldRegMem dst) s = loadReg dst (fun t => memRead8 t t.hl) 1 2 s := by
  cases dst <;> rfl

theorem exec_ldMemReg (src : Reg8) (s : State) :
    exec (Instr.ldMemReg src) s = store8 (fun t => t.hl) (fun t => t.reg src) 1 2 s := by
  cases src <;> rfl

theorem exec_ldImm_reg (dst : Reg8) (n8 : Byte) (s : State) :
    exec (Instr.ldImm (.reg dst) n8) s = loadReg dst (fun _ => n8) 2 2 s := by
  cases dst <;> rfl

theorem exec_ldImm_atHL (n8 : Byte) (s : State) :
    exec (Instr.ldImm .atHL n8) s = store8 (fun t => t.hl) (fun _ => n8) 2 3 s := rfl

theorem exec_ldPairImm (p : Reg16) (n16 : Word) (s : State) :
    exec (Instr.ldPairImm p n16) s = loadPairImm p n16 s := by
  cases p <;> rfl

theorem exec_addHL (p : Reg16) (s : State) : exec (Instr.addHL p) s = addHLPair p s := by cases p <;> rfl
theorem exec_incPair (p : Reg16) (s : State) : exec (Instr.incPair p) s = incPair p s := by cases p <;> rfl
theorem exec_decPair (p : Reg16) (s : State) : exec (Instr.decPair p) s = decPair p s := by cases p <;> rfl
theorem exec_ldAPtr (p : Pointer) (s : State) : exec (Instr.ldAPtr p) s = loadAPointer p s := by cases p <;> rfl
theorem exec_ldPtrA (p : Pointer) (s : State) : exec (Instr.ldPtrA p) s = storeAPointer p s := by cases p <;> rfl
theorem exec_pushOp (p : StackPair) (s : State) : exec (Instr.pushOp p) s = pushPair p s := by cases p <;> rfl
theorem exec_popOp (p : StackPair) (s : State) : exec (Instr.popOp p) s = popPair p s := by cases p <;> rfl

theorem exec_jrCond (cc : Cond) (e8 : Byte) (s : State) :
    exec (Instr.jrCond cc e8) s = jumpIf cc (relTarget e8) 2 2 1 s := by cases cc <;> rfl
theorem exec_jpCond (cc : Cond) (a16 : Word) (s : State) :
    exec (Instr.jpCond cc a16) s = jumpIf cc (fun _ => a16) 3 3 1 s := by cases cc <;> rfl
theorem exec_callCond (cc : Cond) (a16 : Word) (s : State) :
    exec (Instr.callCond cc a16) s = callIf cc imm16 3 3 3 s := by cases cc <;> rfl
theorem exec_retCond (cc : Cond) (s : State) : exec (Instr.retCond cc) s = returnIf cc 1 2 3 s := by cases cc <;> rfl

/-- The target of RST t is `8 * t` (R290). -/
theorem exec_rst (t : Fin 8) (s : State) : exec (Instr.rst t) s = call (fun _ => BitVec.ofNat 16 (8 * t.val)) 1 4 s := by
  fin_cases t <;> rfl

theorem exec_shiftOp (op : ShiftOp) (o : Operand8) (s : State) :
    exec (Instr.shiftOp op o) s = shiftMeaning op o (formCycles o 2 4) s := by
  rcases o with r | _
  · cases op <;> cases r <;> rfl
  · cases op <;> rfl

theorem exec_bitOp (b : Fin 8) (o : Operand8) (s : State) :
    exec (Instr.bitOp b o) s = bitTest b o (formCycles o 2 3) s := by
  rcases o with r | _
  · fin_cases b <;> cases r <;> rfl
  · fin_cases b <;> rfl

theorem exec_resOp (b : Fin 8) (o : Operand8) (s : State) :
    exec (Instr.resOp b o) s = bitReset b o (formCycles o 2 4) s := by
  rcases o with r | _
  · fin_cases b <;> cases r <;> rfl
  · fin_cases b <;> rfl

theorem exec_setOp (b : Fin 8) (o : Operand8) (s : State) :
    exec (Instr.setOp b o) s = bitSetOn b o (formCycles o 2 4) s := by
  rcases o with r | _
  · fin_cases b <;> cases r <;> rfl
  · fin_cases b <;> rfl

theorem exec_nop (s : State) : exec .nop s = .next (retire 1 1 s) := rfl
theorem exec_stop (s : State) : exec .stop s = .next (retire 2 1 s) := rfl
theorem exec_halt (s : State) : exec .halt s = .next (retire 1 1 { s with halt := true }) := rfl
theorem exec_di (s : State) : exec .di s = .next (retire 1 1 { s with ime := false }) := rfl
theorem exec_ei (s : State) : exec .ei s = .next (retire 1 1 { s with ime := true }) := rfl
theorem exec_rlca (s : State) : exec .rlca s = accRotate (fun t => rotate t.regs.a .left) s := rfl
theorem exec_rrca (s : State) : exec .rrca s = accRotate (fun t => rotate t.regs.a .right) s := rfl
theorem exec_rla (s : State) : exec .rla s = accRotate (fun t => carryRotate t.regs.a .left t.regs.f) s := rfl
theorem exec_rra (s : State) : exec .rra s = accRotate (fun t => carryRotate t.regs.a .right t.regs.f) s := rfl
theorem exec_daa (s : State) : exec .daa s = daaOn s := rfl
theorem exec_cpl (s : State) : exec .cpl s = cplOn s := rfl
theorem exec_scf (s : State) : exec .scf s = scfOn s := rfl
theorem exec_ccf (s : State) : exec .ccf s = ccfOn s := rfl
theorem exec_ldAtA16SP (a16 : Word) (s : State) : exec (.ldAtA16SP a16) s = storeSP a16 s := rfl
theorem exec_jrE8 (e8 : Byte) (s : State) : exec (.jrE8 e8) s = jump (relTarget e8) 3 s := rfl
theorem exec_jpA16 (a16 : Word) (s : State) : exec (.jpA16 a16) s = jump (fun _ => a16) 4 s := rfl
theorem exec_jpHL (s : State) : exec .jpHL s = jump (fun t => t.hl) 1 s := rfl
theorem exec_callA16 (a16 : Word) (s : State) : exec (.callA16 a16) s = call imm16 3 6 s := rfl
theorem exec_ret (s : State) : exec .ret s = .next (returnFromCall 4 s) := rfl
theorem exec_reti (s : State) : exec .reti s = .next (returnFromInterrupt 4 s) := rfl
theorem exec_ldhAtA8A (a8 : Byte) (s : State) :
    exec (.ldhAtA8A a8) s = store8 (fun _ => windowAddr a8) (fun t => t.reg .a) 2 3 s := rfl
theorem exec_ldAtCA (s : State) :
    exec .ldAtCA s = store8 (fun t => windowAddr t.regs.c) (fun t => t.reg .a) 1 2 s := rfl
theorem exec_ldAtA16A (a16 : Word) (s : State) :
    exec (.ldAtA16A a16) s = store8 (fun _ => a16) (fun t => t.reg .a) 3 4 s := rfl
theorem exec_ldhAAtA8 (a8 : Byte) (s : State) :
    exec (.ldhAAtA8 a8) s = loadReg .a (fun t => memRead8 t (windowAddr a8)) 2 3 s := rfl
theorem exec_ldAAtC (s : State) :
    exec .ldAAtC s = loadReg .a (fun t => memRead8 t (windowAddr t.regs.c)) 1 2 s := rfl
theorem exec_ldAAtA16 (a16 : Word) (s : State) :
    exec (.ldAAtA16 a16) s = loadReg .a (fun t => memRead8 t a16) 3 4 s := rfl
theorem exec_addSPE8 (e8 : Byte) (s : State) : exec (.addSPE8 e8) s = addSPOffset e8 s := rfl
theorem exec_ldHLSPE8 (e8 : Byte) (s : State) : exec (.ldHLSPE8 e8) s = loadHLSPOffset e8 s := rfl
theorem exec_ldSPHL (s : State) : exec .ldSPHL s = loadSPHL s := rfl

/-! What an instruction may change. -/

/-- `t` differs from `s` at most in registers, `pc`, `sp`, IME, IE, IF, HALT, `idle`, `last_write`, `scratch` and the contents of the
store, and the store stays in form. -/
structure Keeps (s t : State) : Prop where
  counter : t.counter = s.counter
  tapPrev : t.tapPrev = s.tapPrev
  cells : t.cells = s.cells
  components : t.components = s.components
  blocks : t.blocks = s.blocks
  params : t.params = s.params
  env : t.env = s.env
  bootListener : t.bootListener = s.bootListener
  memory : Memory.wf s.mem = true → Memory.wf t.mem = true
  inBlocks : bytesInBlocks s.blocks s.mem = true → blocksLaid 0 s.blocks = true →
    s.cells.all (segmentInBounds s.blocks) = true → bytesInBlocks t.blocks t.mem = true

theorem Keeps.refl (s : State) : Keeps s s := by constructor <;> intros <;> first | rfl | assumption

theorem Keeps.trans {s t u : State} (h : Keeps s t) (h' : Keeps t u) : Keeps s u where
  counter := h'.counter.trans h.counter
  tapPrev := h'.tapPrev.trans h.tapPrev
  cells := h'.cells.trans h.cells
  components := h'.components.trans h.components
  blocks := h'.blocks.trans h.blocks
  params := h'.params.trans h.params
  env := h'.env.trans h.env
  bootListener := h'.bootListener.trans h.bootListener
  memory hm := h'.memory (h.memory hm)
  inBlocks hm hl hb := h'.inBlocks (h.inBlocks hm hl hb) (h.blocks ▸ hl) (by rw [h.cells, h.blocks]; exact hb)

/-- A change that leaves the store, the map and the timer alone. -/
theorem Keeps.of_eq {s t : State} (counter : t.counter = s.counter) (tapPrev : t.tapPrev = s.tapPrev)
    (cells : t.cells = s.cells) (components : t.components = s.components) (blocks : t.blocks = s.blocks)
    (params : t.params = s.params) (env : t.env = s.env) (bootListener : t.bootListener = s.bootListener)
    (mem : t.mem = s.mem) : Keeps s t :=
  ⟨counter, tapPrev, cells, components, blocks, params, env, bootListener, fun h => mem ▸ h,
    fun h _ _ => by rw [blocks, mem]; exact h⟩

theorem Keeps.poke (s : State) (a : Word) (v : Byte) : Keeps s (poke s a v) where
  counter := by simp
  tapPrev := by simp
  cells := by simp
  components := by simp
  blocks := by simp
  params := by simp
  env := by simp
  bootListener := by simp
  memory := wf_poke s a v
  inBlocks hm hl hb := by simpa using bytesInBlocks_poke s a v hm hl hb

theorem Keeps.setLastWrite (s : State) (a : Word) : Keeps s (s.setLastWrite a) := by apply Keeps.of_eq <;> rfl

theorem Keeps.memWrite8 {s t : State} {a : Word} {v : Byte} (h : memWrite8 s a v = .next t) : Keeps s t := by
  obtain ⟨_, rfl⟩ := memWrite8_eq_next h
  exact (Keeps.poke _ _ _).trans (Keeps.setLastWrite _ _)

theorem Keeps.memWrite16 {s t : State} {a v : Word} (h : memWrite16 s a v = .next t) : Keeps s t := by
  obtain ⟨_, _, rfl⟩ := memWrite16_eq_next h
  exact ((Keeps.poke _ _ _).trans (Keeps.poke _ _ _)).trans (Keeps.setLastWrite _ _)

theorem Keeps.push {s t : State} {v : Word} (h : push v s = .next t) : Keeps s t := by
  have := Keeps.memWrite16 h
  exact Keeps.trans (t := { s with sp := pushSp s.sp }) (by apply Keeps.of_eq <;> rfl) this

/-- What a whole instruction may change: besides, its cost in `idle` is at most 5, and HALT is set only with no cost (R313). -/
structure CpuEffect (s t : State) : Prop where
  keeps : Keeps s t
  idle : t.idle ≤ s.idle + 5
  halt : t.halt = s.halt ∨ t.idle = s.idle

/-- What an instruction may answer: a next state, or the fault of a store to an unmapped address (R342); never a refusal. -/
def CpuOutcome (s : State) : Result → Prop
  | .next t => CpuEffect s t
  | .fault f => ∃ a, f = .unmappedWrite a ∧ s.place a = .unmapped
  | .refused _ => False

theorem CpuEffect.retire {s u : State} (len : Word) {cycles : Nat} (hk : Keeps s u) (hi : u.idle = s.idle)
    (hh : u.halt = s.halt) (hc : cycles ≤ 6) : CpuEffect s (retire len cycles u) :=
  ⟨hk.trans (by apply Keeps.of_eq <;> rfl), by simp [hi]; omega, .inl (by simpa using hh)⟩

theorem CpuEffect.jumpTo {s u : State} (target : Word) {cycles : Nat} (hk : Keeps s u) (hi : u.idle = s.idle)
    (hh : u.halt = s.halt) (hc : cycles ≤ 6) : CpuEffect s (jumpTo target cycles u) :=
  ⟨hk.trans (by apply Keeps.of_eq <;> rfl), by simp [hi]; omega, .inl (by simpa using hh)⟩

/-- A byte store, and then what ends the instruction. -/
theorem CpuOutcome.store8 {s u : State} {a : Word} {v : Byte} {f : State → State} (hk : Keeps s u)
    (hf : ∀ t, Keeps u t → t.idle = u.idle → t.halt = u.halt → CpuEffect s (f t)) :
    CpuOutcome s (mapNext (memWrite8 u a v) f) := by
  by_cases h : u.place a = .unmapped
  · rw [memWrite8_unmapped _ _ _ h]
    exact ⟨a, rfl, by rw [← place_congr hk.cells]; exact h⟩
  · rw [memWrite8_mapped _ _ _ h]
    exact hf _ (Keeps.memWrite8 (memWrite8_mapped _ _ _ h)) (by simp) (by simp)

/-- A word store, and then what ends the instruction. -/
theorem CpuOutcome.store16 {s u : State} {a : Word} {v : Word} {f : State → State} (hk : Keeps s u)
    (hf : ∀ t, Keeps u t → t.idle = u.idle → t.halt = u.halt → CpuEffect s (f t)) :
    CpuOutcome s (mapNext (memWrite16 u a v) f) := by
  by_cases h : u.place a = .unmapped
  · rw [memWrite16_unmapped_low _ _ _ h]
    exact ⟨a, rfl, by rw [← place_congr hk.cells]; exact h⟩
  · by_cases h' : u.place (a + 1) = .unmapped
    · rw [memWrite16_unmapped_high _ _ _ h h']
      exact ⟨a + 1, rfl, by rw [← place_congr hk.cells]; exact h'⟩
    · rw [memWrite16_mapped _ _ _ h h']
      exact hf _ (Keeps.memWrite16 (memWrite16_mapped _ _ _ h h')) (by simp) (by simp)

/-- A register or the byte at HL written, and then what ends the instruction. -/
theorem CpuOutcome.wr8 {s u : State} {o : Operand8} {v : Byte} {f : State → State} (hk : Keeps s u)
    (hf : ∀ t, Keeps u t → t.idle = u.idle → t.halt = u.halt → CpuEffect s (f t)) :
    CpuOutcome s (mapNext (wr8 o v u) f) := by
  cases o with
  | reg r => exact hf _ (by apply Keeps.of_eq <;> simp) (by simp) (by simp)
  | atHL => exact CpuOutcome.store8 hk hf

theorem CpuOutcome.push {s : State} {v : Word} {f : State → State}
    (hf : ∀ t, Keeps s t → t.idle = s.idle → t.halt = s.halt → CpuEffect s (f t)) :
    CpuOutcome s (mapNext (push v s) f) := by
  have hk : Keeps s { s with sp := pushSp s.sp } := by apply Keeps.of_eq <;> rfl
  exact CpuOutcome.store16 hk fun t ht hi hh => hf t (hk.trans ht) hi hh

theorem formCycles_le {o : Operand8} {r m k : Nat} (hr : r ≤ k) (hm : m ≤ k) : formCycles o r m ≤ k := by
  cases o <;> assumption

theorem aluMeaning_outcome (op : AluOp) (src : State → Byte) (len : Word) (cycles : Nat) (s : State)
    (hc : cycles ≤ 6) : CpuOutcome s (aluMeaning op src len cycles s) := by
  cases op <;> exact CpuEffect.retire _ (by apply Keeps.of_eq <;> simp) (by simp) (by simp) hc

theorem rewrite8_outcome (o : Operand8) (r : AluResult) (cs : FlagSource) (cycles : Nat) (s : State)
    (hc : cycles ≤ 6) : CpuOutcome s (rewrite8 o r cs cycles s) :=
  CpuOutcome.wr8 (u := s.setScratch r) (by apply Keeps.of_eq <;> rfl) fun t ht hi hh =>
    CpuEffect.retire _ (Keeps.trans (t := s.setScratch r) (by apply Keeps.of_eq <;> rfl)
      (ht.trans (by apply Keeps.of_eq <;> rfl))) (by simpa using hi) (by simpa using hh) hc

theorem rewriteBit_outcome (o : Operand8) (v : Byte) (cycles : Nat) (s : State) (hc : cycles ≤ 6) :
    CpuOutcome s (rewriteBit o v cycles s) :=
  CpuOutcome.wr8 (u := s.setScratch (plainResult v)) (by apply Keeps.of_eq <;> rfl) fun t ht hi hh =>
    CpuEffect.retire _ (Keeps.trans (t := s.setScratch (plainResult v)) (by apply Keeps.of_eq <;> rfl)
      (ht.trans (by apply Keeps.of_eq <;> rfl))) (by simpa using hi) (by simpa using hh) hc

theorem call_outcome (target : State → Word) (len : Word) (cycles : Nat) (s : State) (hc : cycles ≤ 6) :
    CpuOutcome s (call target len cycles s) :=
  CpuOutcome.push fun _ ht hi hh => CpuEffect.jumpTo _ ht hi hh hc

theorem store8_outcome (address : State → Word) (value : State → Byte) (len : Word) (cycles : Nat) (s : State)
    (hc : cycles ≤ 6) : CpuOutcome s (store8 address value len cycles s) :=
  CpuOutcome.store8 (Keeps.refl s) fun _ ht hi hh => CpuEffect.retire _ ht hi hh hc

theorem quiet_outcome {s u : State} (len : Word) {cycles : Nat} (hk : Keeps s u) (hi : u.idle = s.idle)
    (hh : u.halt = s.halt) (hc : cycles ≤ 6) : CpuOutcome s (.next (retire len cycles u)) :=
  CpuEffect.retire len hk hi hh hc

theorem jump_outcome (target : State → Word) (cycles : Nat) (s : State) (hc : cycles ≤ 6) :
    CpuOutcome s (jump target cycles s) := CpuEffect.jumpTo _ (Keeps.refl s) rfl rfl hc

theorem return_outcome (cycles : Nat) (s : State) (hc : cycles ≤ 6) : CpuOutcome s (.next (returnFromCall cycles s)) :=
  CpuEffect.jumpTo (u := dropWord s) _ (by apply Keeps.of_eq <;> rfl) rfl rfl hc

theorem accRotate_outcome (f : State → AluResult) (s : State) : CpuOutcome s (accRotate f s) :=
  CpuEffect.retire _ (by apply Keeps.of_eq <;> simp) (by simp) (by simp) (by decide)

theorem jumpIf_outcome (cc : Cond) (target : State → Word) (len : Word) (cycles xtra : Nat) (s : State)
    (hc : cycles + xtra ≤ 6) : CpuOutcome s (jumpIf cc target len cycles xtra s) := by
  unfold jumpIf
  split
  · exact jump_outcome target _ s hc
  · exact quiet_outcome _ (Keeps.refl s) rfl rfl (by omega)

theorem callIf_outcome (cc : Cond) (target : State → Word) (len : Word) (cycles xtra : Nat) (s : State) (hc : cycles + xtra ≤ 6) :
    CpuOutcome s (callIf cc target len cycles xtra s) := by
  unfold callIf
  split
  · exact call_outcome _ _ _ _ hc
  · exact quiet_outcome _ (Keeps.refl s) rfl rfl (by omega)

theorem returnIf_outcome (cc : Cond) (len : Word) (cycles xtra : Nat) (s : State) (hc : cycles + xtra ≤ 6) :
    CpuOutcome s (returnIf cc len cycles xtra s) := by
  unfold returnIf
  split
  · exact return_outcome _ _ hc
  · exact quiet_outcome _ (Keeps.refl s) rfl rfl (by omega)

theorem loadReg_outcome (r : Reg8) (value : State → Byte) (len : Word) (cycles : Nat) (s : State) (hc : cycles ≤ 6) :
    CpuOutcome s (loadReg r value len cycles s) :=
  quiet_outcome _ (by apply Keeps.of_eq <;> simp) (by simp) (by simp) hc

theorem inc8_outcome (o : Operand8) (cycles : Nat) (s : State) (hc : cycles ≤ 6) : CpuOutcome s (inc8 o cycles s) :=
  CpuOutcome.wr8 (u := s.setScratch (add8 (rd8 o s) 1 false)) (by apply Keeps.of_eq <;> rfl) fun t ht hi hh =>
    CpuEffect.retire _ (Keeps.trans (t := s.setScratch (add8 (rd8 o s) 1 false)) (by apply Keeps.of_eq <;> rfl)
      (ht.trans (by apply Keeps.of_eq <;> rfl))) (by simpa using hi) (by simpa using hh) hc

theorem dec8_outcome (o : Operand8) (cycles : Nat) (s : State) (hc : cycles ≤ 6) : CpuOutcome s (dec8 o cycles s) :=
  CpuOutcome.wr8 (u := s.setScratch (sub8 (rd8 o s) 1 false)) (by apply Keeps.of_eq <;> rfl) fun t ht hi hh =>
    CpuEffect.retire _ (Keeps.trans (t := s.setScratch (sub8 (rd8 o s) 1 false)) (by apply Keeps.of_eq <;> rfl)
      (ht.trans (by apply Keeps.of_eq <;> rfl))) (by simpa using hi) (by simpa using hh) hc

theorem storeAPointer_outcome (p : Pointer) (s : State) : CpuOutcome s (storeAPointer p s) :=
  CpuOutcome.store8 (Keeps.refl s) fun t ht hi hh =>
    CpuEffect.retire _ (ht.trans (by apply Keeps.of_eq <;> simp)) (by simpa using hi) (by simpa using hh) (by decide)

theorem pushPair_outcome (p : StackPair) (s : State) : CpuOutcome s (pushPair p s) :=
  CpuOutcome.push fun _ ht hi hh => CpuEffect.retire _ ht hi hh (by decide)

theorem storeSP_outcome (a16 : Word) (s : State) : CpuOutcome s (storeSP a16 s) :=
  CpuOutcome.store16 (Keeps.refl s) fun _ ht hi hh => CpuEffect.retire _ ht hi hh (by decide)

/-- The effect of any instruction of the base table with a register, pair, condition or immediate form. -/
theorem shift_outcome (op : ShiftOp) (o : Operand8) (cycles : Nat) (s : State) (hc : cycles ≤ 6) :
    CpuOutcome s (shiftMeaning op o cycles s) := by
  cases op <;> exact rewrite8_outcome _ _ _ _ _ hc

/-- The effect of any instruction. -/
theorem exec_outcome (i : Instr) (s : State) : CpuOutcome s (exec i s) := by
  have quiet : ∀ {u : State} (len : Word) (cycles : Nat), Keeps s u → u.idle = s.idle → u.halt = s.halt →
      cycles ≤ 6 → CpuOutcome s (.next (retire len cycles u)) := fun len _ => CpuEffect.retire len
  have le : ∀ (o : Operand8) (r m : Nat), r ≤ 6 → m ≤ 6 → formCycles o r m ≤ 6 := fun _ _ _ => formCycles_le
  induction i using Instr.by_form with
  | aluOp op o => exact exec_aluOp op o s ▸ aluMeaning_outcome _ _ _ _ _ (le o 1 2 (by decide) (by decide))
  | aluImm op n8 => exact exec_aluImm op n8 s ▸ aluMeaning_outcome _ _ _ _ _ (by decide)
  | incOp o => exact exec_incOp o s ▸ inc8_outcome _ _ _ (le o 1 3 (by decide) (by decide))
  | decOp o => exact exec_decOp o s ▸ dec8_outcome _ _ _ (le o 1 3 (by decide) (by decide))
  | ldRegReg dst src => exact exec_ldRegReg dst src s ▸ loadReg_outcome _ _ _ _ _ (by decide)
  | ldRegMem dst => exact exec_ldRegMem dst s ▸ loadReg_outcome _ _ _ _ _ (by decide)
  | ldMemReg src => exact exec_ldMemReg src s ▸ store8_outcome _ _ _ _ _ (by decide)
  | ldImm o n8 =>
    cases o with
    | reg r => exact exec_ldImm_reg r n8 s ▸ loadReg_outcome _ _ _ _ _ (by decide)
    | atHL => exact exec_ldImm_atHL n8 s ▸ store8_outcome _ _ _ _ _ (by decide)
  | ldPairImm p n16 =>
    exact exec_ldPairImm p n16 s ▸ quiet _ _ (by apply Keeps.of_eq <;> simp) (by simp) (by simp) (by decide)
  | addHL p => exact exec_addHL p s ▸ quiet _ _ (by apply Keeps.of_eq <;> simp) (by simp) (by simp) (by decide)
  | incPair p => exact exec_incPair p s ▸ quiet _ _ (by apply Keeps.of_eq <;> simp) (by simp) (by simp) (by decide)
  | decPair p => exact exec_decPair p s ▸ quiet _ _ (by apply Keeps.of_eq <;> simp) (by simp) (by simp) (by decide)
  | ldAPtr p => exact exec_ldAPtr p s ▸ quiet _ _ (by apply Keeps.of_eq <;> simp) (by simp) (by simp) (by decide)
  | ldPtrA p => exact exec_ldPtrA p s ▸ storeAPointer_outcome p s
  | pushOp p => exact exec_pushOp p s ▸ pushPair_outcome p s
  | popOp p => exact exec_popOp p s ▸ quiet _ _ (by apply Keeps.of_eq <;> simp) (by simp) (by simp) (by decide)
  | jrCond cc e8 => exact exec_jrCond cc e8 s ▸ jumpIf_outcome _ _ _ _ _ _ (by decide)
  | jpCond cc a16 => exact exec_jpCond cc a16 s ▸ jumpIf_outcome _ _ _ _ _ _ (by decide)
  | callCond cc a16 => exact exec_callCond cc a16 s ▸ callIf_outcome _ _ _ _ _ _ (by decide)
  | retCond cc => exact exec_retCond cc s ▸ returnIf_outcome _ _ _ _ _ (by decide)
  | rst t => exact exec_rst t s ▸ call_outcome _ _ _ _ (by decide)
  | shiftOp op o => exact exec_shiftOp op o s ▸ shift_outcome _ _ _ _ (le o 2 4 (by decide) (by decide))
  | bitOp b o =>
    exact exec_bitOp b o s ▸
      quiet _ _ (by apply Keeps.of_eq <;> simp) (by simp) (by simp) (le o 2 3 (by decide) (by decide))
  | resOp b o => exact exec_resOp b o s ▸ rewriteBit_outcome _ _ _ _ (le o 2 4 (by decide) (by decide))
  | setOp b o => exact exec_setOp b o s ▸ rewriteBit_outcome _ _ _ _ (le o 2 4 (by decide) (by decide))
  | nop => exact exec_nop s ▸ quiet _ _ (Keeps.refl s) rfl rfl (by decide)
  | stop => exact exec_stop s ▸ quiet _ _ (Keeps.refl s) rfl rfl (by decide)
  | halt => exact exec_halt s ▸ ⟨by apply Keeps.of_eq <;> rfl, by simp, .inr rfl⟩
  | di => exact exec_di s ▸ quiet _ _ (by apply Keeps.of_eq <;> rfl) rfl rfl (by decide)
  | ei => exact exec_ei s ▸ quiet _ _ (by apply Keeps.of_eq <;> rfl) rfl rfl (by decide)
  | rlca => exact exec_rlca s ▸ accRotate_outcome _ s
  | rrca => exact exec_rrca s ▸ accRotate_outcome _ s
  | rla => exact exec_rla s ▸ accRotate_outcome _ s
  | rra => exact exec_rra s ▸ accRotate_outcome _ s
  | daa => exact exec_daa s ▸ quiet _ _ (by apply Keeps.of_eq <;> simp) (by simp) (by simp) (by decide)
  | cpl => exact exec_cpl s ▸ quiet _ _ (by apply Keeps.of_eq <;> simp) (by simp) (by simp) (by decide)
  | scf => exact exec_scf s ▸ quiet _ _ (by apply Keeps.of_eq <;> simp) (by simp) (by simp) (by decide)
  | ccf => exact exec_ccf s ▸ quiet _ _ (by apply Keeps.of_eq <;> simp) (by simp) (by simp) (by decide)
  | ldAtA16SP a16 => exact exec_ldAtA16SP a16 s ▸ storeSP_outcome a16 s
  | jrE8 e8 => exact exec_jrE8 e8 s ▸ jump_outcome _ _ _ (by decide)
  | jpA16 a16 => exact exec_jpA16 a16 s ▸ jump_outcome _ _ _ (by decide)
  | jpHL => exact exec_jpHL s ▸ jump_outcome _ _ _ (by decide)
  | callA16 a16 => exact exec_callA16 a16 s ▸ call_outcome _ _ _ _ (by decide)
  | ret => exact exec_ret s ▸ return_outcome _ _ (by decide)
  | reti => exact exec_reti s ▸ ⟨by apply Keeps.of_eq <;> rfl, by simp, .inl rfl⟩
  | ldhAtA8A a8 => exact exec_ldhAtA8A a8 s ▸ store8_outcome _ _ _ _ _ (by decide)
  | ldAtCA => exact exec_ldAtCA s ▸ store8_outcome _ _ _ _ _ (by decide)
  | ldAtA16A a16 => exact exec_ldAtA16A a16 s ▸ store8_outcome _ _ _ _ _ (by decide)
  | ldhAAtA8 a8 => exact exec_ldhAAtA8 a8 s ▸ loadReg_outcome _ _ _ _ _ (by decide)
  | ldAAtC => exact exec_ldAAtC s ▸ loadReg_outcome _ _ _ _ _ (by decide)
  | ldAAtA16 a16 => exact exec_ldAAtA16 a16 s ▸ loadReg_outcome _ _ _ _ _ (by decide)
  | addSPE8 e8 => exact exec_addSPE8 e8 s ▸ quiet _ _ (by apply Keeps.of_eq <;> simp) (by simp) (by simp) (by decide)
  | ldHLSPE8 e8 => exact exec_ldHLSPE8 e8 s ▸ quiet _ _ (by apply Keeps.of_eq <;> simp) (by simp) (by simp) (by decide)
  | ldSPHL => exact exec_ldSPHL s ▸ quiet _ _ (by apply Keeps.of_eq <;> simp) (by simp) (by simp) (by decide)

end Sys2Proof.Machine
end

