-- ==== Sys2Proof/Laws/Step.lean ====
section
/-! SUPPORT. What the parts of a machine cycle may do: the timer, the CPU, the environment's moves, the listeners. -/

namespace Sys2Proof.Machine

/-! The timer. -/

theorem Keeps.busWrite {s t : State} {a : Word} {v : Byte} (h : busWrite s a v = .next t) : Keeps s t := by
  obtain ⟨_, rfl⟩ := busWrite_eq_next h
  exact Keeps.poke _ _ _

/-- `t` differs from `s` at most in the timer's counter and latch, IE, IF and the contents of the store, which stays in form. -/
structure TimerEffect (s t : State) : Prop where
  regs : t.regs = s.regs
  pc : t.pc = s.pc
  sp : t.sp = s.sp
  ime : t.ime = s.ime
  halt : t.halt = s.halt
  idle : t.idle = s.idle
  lastWrite : t.lastWrite = s.lastWrite
  scratch : t.scratch = s.scratch
  cells : t.cells = s.cells
  components : t.components = s.components
  blocks : t.blocks = s.blocks
  params : t.params = s.params
  env : t.env = s.env
  bootListener : t.bootListener = s.bootListener
  memory : Memory.wf s.mem = true → Memory.wf t.mem = true
  inBlocks : bytesInBlocks s.blocks s.mem = true → blocksLaid 0 s.blocks = true →
    s.cells.all (segmentInBounds s.blocks) = true → bytesInBlocks t.blocks t.mem = true

theorem TimerEffect.of_eq {s t : State} (regs : t.regs = s.regs) (pc : t.pc = s.pc) (sp : t.sp = s.sp)
    (ime : t.ime = s.ime) (halt : t.halt = s.halt) (idle : t.idle = s.idle) (lastWrite : t.lastWrite = s.lastWrite)
    (scratch : t.scratch = s.scratch) (cells : t.cells = s.cells) (components : t.components = s.components)
    (blocks : t.blocks = s.blocks) (params : t.params = s.params) (env : t.env = s.env)
    (bootListener : t.bootListener = s.bootListener) (mem : t.mem = s.mem) : TimerEffect s t :=
  ⟨regs, pc, sp, ime, halt, idle, lastWrite, scratch, cells, components, blocks, params, env, bootListener,
    fun h => mem ▸ h, fun h _ _ => by rw [blocks, mem]; exact h⟩

theorem TimerEffect.trans {s t u : State} (h : TimerEffect s t) (h' : TimerEffect t u) : TimerEffect s u where
  regs := h'.regs.trans h.regs
  pc := h'.pc.trans h.pc
  sp := h'.sp.trans h.sp
  ime := h'.ime.trans h.ime
  halt := h'.halt.trans h.halt
  idle := h'.idle.trans h.idle
  lastWrite := h'.lastWrite.trans h.lastWrite
  scratch := h'.scratch.trans h.scratch
  cells := h'.cells.trans h.cells
  components := h'.components.trans h.components
  blocks := h'.blocks.trans h.blocks
  params := h'.params.trans h.params
  env := h'.env.trans h.env
  bootListener := h'.bootListener.trans h.bootListener
  memory hm := h'.memory (h.memory hm)
  inBlocks hm hl hb := h'.inBlocks (h.inBlocks hm hl hb) (h.blocks ▸ hl) (by rw [h.cells, h.blocks]; exact hb)

theorem TimerEffect.poke (s : State) (a : Word) (v : Byte) : TimerEffect s (poke s a v) := by
  constructor
  case memory => exact wf_poke s a v
  case inBlocks => exact fun hm hl hb => by simpa using bytesInBlocks_poke s a v hm hl hb
  all_goals simp

theorem TimerEffect.busWrite {s t : State} {a : Word} {v : Byte} (h : busWrite s a v = .next t) : TimerEffect s t := by
  obtain ⟨_, rfl⟩ := busWrite_eq_next h
  exact TimerEffect.poke _ _ _

theorem timaIncrement_effect {s t : State} (h : timaIncrement s = .next t) : TimerEffect s t := by
  simp only [timaIncrement] at h
  split at h
  · obtain ⟨u, hu, rfl⟩ := mapNext_eq_next h
    exact (TimerEffect.busWrite hu).trans (by apply TimerEffect.of_eq <;> rfl)
  · exact TimerEffect.busWrite h

/-- What an edge count leaves: the latch holds the state after, and the rest is the timer's. -/
theorem countEdge_effect {b a : Bool} {s t : State} (h : countEdge b a s = .next t) :
    TimerEffect s t ∧ t.tapPrev = a ∧ t.counter = s.counter := by
  obtain ⟨u, hu, rfl⟩ := mapNext_eq_next h
  have hs : TimerEffect u { u with tapPrev := a } := by apply TimerEffect.of_eq <;> rfl
  split at hu
  · refine ⟨(timaIncrement_effect hu).trans hs, rfl, ?_⟩
    simp only [timaIncrement] at hu
    split at hu
    · obtain ⟨w, hw, rfl⟩ := mapNext_eq_next hu
      obtain ⟨_, rfl⟩ := busWrite_eq_next hw
      simp
    · obtain ⟨_, rfl⟩ := busWrite_eq_next hu
      simp
  · cases hu
    exact ⟨hs, rfl, rfl⟩

theorem timerCycle_effect {s t : State} (h : timerCycle s = .next t) : TimerEffect s t := by
  obtain ⟨u, hu, hc⟩ := onNext_eq_next h
  exact (TimerEffect.trans (t := { s with counter := s.counter + BitVec.ofNat 16 s.params.timerInc })
    (by apply TimerEffect.of_eq <;> rfl) (TimerEffect.busWrite hu)).trans (countEdge_effect hc).1

theorem timerWriteHook_effect {a : Word} {s t : State} (h : timerWriteHook a s = .next t) : TimerEffect s t := by
  unfold timerWriteHook at h
  split at h
  · exact TimerEffect.trans (t := { s with counter := 0 }) (by apply TimerEffect.of_eq <;> rfl) (countEdge_effect h).1
  · split at h
    · exact (countEdge_effect h).1
    · cases h
      apply TimerEffect.of_eq <;> rfl

/-- The invariant survives any change of the timer's kind. -/
theorem TimerEffect.inv {s t : State} (h : TimerEffect s t) (hi : s.Inv) : t.Inv where
  memory := h.memory hi.memory
  inBlocks := h.inBlocks hi.inBlocks hi.laid hi.inBounds
  laid := h.blocks ▸ hi.laid
  inBounds := by rw [h.cells, h.blocks]; exact hi.inBounds
  idle := by rw [h.idle, h.params]; exact hi.idle
  halted := by rw [h.halt, h.idle]; exact hi.halted

/-! The CPU. -/

/-- The invariant survives what an instruction does when it starts with `idle` 0 and not halted. -/
theorem CpuEffect.inv {s t : State} (h : CpuEffect s t) (hi : s.Inv) (h0 : s.idle = 0) (hh : s.halt = false) : t.Inv where
  memory := h.keeps.memory hi.memory
  inBlocks := h.keeps.inBlocks hi.inBlocks hi.laid hi.inBounds
  laid := h.keeps.blocks ▸ hi.laid
  inBounds := by rw [h.keeps.cells, h.keeps.blocks]; exact hi.inBounds
  idle := by have := h.idle; omega
  halted := fun ht => by
    rcases h.halt with h' | h'
    · rw [h', hh] at ht; cases ht
    · omega

theorem State.Inv.congr {s t : State} (hi : s.Inv) (mem : t.mem = s.mem) (blocks : t.blocks = s.blocks)
    (cells : t.cells = s.cells) (idle : t.idle = s.idle) (halt : t.halt = s.halt ∨ t.halt = false)
    (params : t.params = s.params) : t.Inv where
  memory := by rw [mem]; exact hi.memory
  inBlocks := by rw [mem, blocks]; exact hi.inBlocks
  laid := by rw [blocks]; exact hi.laid
  inBounds := by rw [cells, blocks]; exact hi.inBounds
  idle := by rw [idle, params]; exact hi.idle
  halted := fun ht => by
    rcases halt with h | h
    · rw [idle]; exact hi.halted (h ▸ ht)
    · rw [h] at ht; cases ht

theorem takeInterrupt_inv {i : Line} {s t : State} (h : takeInterrupt i s = .next t) (hi : s.Inv) (h0 : s.idle = 0)
    (hh : s.halt = false) : t.Inv := by
  obtain ⟨u, hu, rfl⟩ := mapNext_eq_next h
  have hk := Keeps.push hu
  obtain ⟨_, _, hu'⟩ := memWrite16_eq_next hu
  have hidle : u.idle = 0 := by rw [hu']; simpa using h0
  have hhalt : u.halt = false := by rw [hu']; simpa using hh
  have hs : State.Inv { s with ime := false, iflag := bitUnset s.iflag (Line.bit i) } :=
    hi.congr rfl rfl rfl rfl (.inl rfl) rfl
  exact
    { memory := hk.memory hs.memory
      inBlocks := hk.inBlocks hs.inBlocks hs.laid hs.inBounds
      laid := by show blocksLaid 0 u.blocks = true; rw [hk.blocks]; exact hs.laid
      inBounds := by
        show u.cells.all (segmentInBounds u.blocks) = true
        rw [hk.cells, hk.blocks]; exact hs.inBounds
      idle := by
        show u.idle + u.params.intServiceCycles ≤ max 5 u.params.intServiceCycles
        omega
      halted := fun ht => by
        have : u.halt = true := ht
        rw [hhalt] at this; cases this }

theorem dispatch_inv {s t : State} (h : dispatch s = .next t) (hi : s.Inv) (h0 : s.idle = 0) (hh : s.halt = false) :
    t.Inv := by
  unfold dispatch at h
  split at h
  · rename_i i _ _
    have hs : (s.setScratch .empty).Inv := hi.congr rfl rfl rfl rfl (.inl rfl) rfl
    have he := exec_outcome i (s.setScratch .empty)
    rw [h] at he
    exact CpuEffect.inv he hs h0 hh
  · cases h

theorem interruptOrDispatch_inv {s t : State} (h : interruptOrDispatch s = .next t) (hi : s.Inv) (h0 : s.idle = 0)
    (hh : s.halt = false) : t.Inv := by
  unfold interruptOrDispatch at h
  split at h
  · split at h
    · exact takeInterrupt_inv h hi h0 hh
    · exact dispatch_inv h hi h0 hh
  · exact dispatch_inv h hi h0 hh

theorem cpuCycle_inv {s t : State} (h : cpuCycle s = .next t) (hi : s.Inv) : t.Inv := by
  have hs : State.Inv { s with lastWrite := 0 } := hi.congr rfl rfl rfl rfl (.inl rfl) rfl
  simp only [cpuCycle] at h
  split at h
  · rename_i hidle
    cases h
    exact
      { memory := hi.memory
        inBlocks := hi.inBlocks
        laid := hi.laid
        inBounds := hi.inBounds
        idle := by have := hi.idle; show s.idle - 1 ≤ max 5 s.params.intServiceCycles; omega
        halted := fun ht => by have := hi.halted ht; show s.idle - 1 = 0; omega }
  · rename_i hidle
    have h0 : s.idle = 0 := by omega
    split at h
    · split at h
      · cases h; exact hs
      · exact interruptOrDispatch_inv h (hs.congr rfl rfl rfl rfl (.inr rfl) rfl) h0 rfl
    · rename_i hh
      exact interruptOrDispatch_inv h hs h0 (by simpa using hh)

/-! The environment. -/

theorem blockSize_append_le (bs cs : List Block) (id : Nat) : blockSize bs id ≤ blockSize (bs ++ cs) id := by
  induction bs with
  | nil => simp [blockSize]
  | cons b bs ih =>
    simp only [List.cons_append, blockSize]
    split
    · exact le_refl _
    · exact ih

theorem segmentInBounds_append {bs cs : List Block} {g : Segment} (h : segmentInBounds bs g = true) :
    segmentInBounds (bs ++ cs) g = true := by
  unfold segmentInBounds at h ⊢
  split
  · rename_i id offset hg
    simp only [hg, Bool.and_eq_true, decide_eq_true_eq] at h ⊢
    exact ⟨h.1, le_trans h.2 (blockSize_append_le _ _ _)⟩
  · rfl

theorem blocksLaid_append (bs : List Block) (base size : Nat) (h : blocksLaid base bs = true) (hs : 0 < size) :
    blocksLaid base (bs ++ [⟨base + storeSize bs, size⟩]) = true := by
  induction bs generalizing base with
  | nil => simp [blocksLaid, storeSize, hs]
  | cons b bs ih =>
    simp only [blocksLaid, Bool.and_eq_true] at h
    simp only [List.cons_append, blocksLaid, Bool.and_eq_true, h.1, true_and, storeSize, List.map_cons, List.sum_cons]
    have := ih _ h.2
    simp only [storeSize] at this
    rw [← Nat.add_assoc]
    exact this

theorem componentCreate_inv (size : Nat) (s : State) (hi : s.Inv) : (componentCreate size s).Inv := by
  unfold componentCreate
  split
  · exact hi.congr rfl rfl rfl rfl (.inl rfl) rfl
  · rename_i hsz
    exact
      { memory := hi.memory
        inBlocks := by
          have := hi.inBlocks
          simp only [bytesInBlocks, List.all_eq_true, decide_eq_true_eq] at this ⊢
          intro c hc
          have := this c hc
          simp only [storeSize, List.map_append, List.sum_append] at this ⊢
          omega
        laid := by simpa using blocksLaid_append s.blocks 0 size hi.laid (by omega)
        inBounds := by
          have := hi.inBounds
          simp only [List.all_eq_true] at this ⊢
          exact fun g hg => segmentInBounds_append (this g hg)
        idle := hi.idle
        halted := hi.halted }

theorem withComponent_eq_next {s t : State} {n : Nat} {f : Component → Result} (h : withComponent s n f = .next t) :
    ∃ c, s.components[n]? = some c ∧ f c = .next t := by
  unfold withComponent at h
  split at h
  · cases h
  · exact ⟨_, by assumption, h⟩

theorem busForcedPlug_inv {n : Nat} {first last : Word} {offset : Nat} {s t : State}
    (h : busForcedPlug n first last offset s = .next t) (hi : s.Inv) : t.Inv := by
  obtain ⟨c, _, h⟩ := withComponent_eq_next h
  split at h
  · cases h
  · split at h
    · cases h
    · rename_i id _ hb
      cases h
      exact
        { memory := hi.memory
          inBlocks := hi.inBlocks
          laid := hi.laid
          inBounds := by
            simp only [List.all_cons, Bool.and_eq_true]
            refine ⟨?_, hi.inBounds⟩
            simp only [segmentInBounds, Bool.and_eq_true, decide_eq_true_eq]
            omega
          idle := hi.idle
          halted := hi.halted }

theorem bytesInBlocks_writeAll (bs : List Block) (m : List Host.Cell) (k : Nat) (vs : List Byte)
    (h : bytesInBlocks bs m = true) (hk : k + vs.length ≤ storeSize bs) :
    bytesInBlocks bs (Memory.writeAll m k vs) = true := by
  simp only [bytesInBlocks, List.all_eq_true, decide_eq_true_eq] at h ⊢
  intro c hc
  rcases Memory.writeAll_index m k vs c hc with h' | h'
  · omega
  · exact h c h'

theorem applyMove_inv {m : EnvMove} {s t : State} (h : applyMove m s = .next t) (hi : s.Inv) : t.Inv := by
  cases m with
  | request line => cases h; exact hi.congr rfl rfl rfl rfl (.inl rfl) rfl
  | write a v => exact (TimerEffect.busWrite h).inv hi
  | create size => cases h; exact componentCreate_inv size s hi
  | share dst src =>
    obtain ⟨d, _, h⟩ := withComponent_eq_next h
    obtain ⟨c, _, h⟩ := withComponent_eq_next h
    split at h
    · cases h
    · cases h; exact hi.congr rfl rfl rfl rfl (.inl rfl) rfl
  | plug c first last =>
    simp only [applyMove, busPlug] at h
    split at h
    · cases h
    · exact busForcedPlug_inv h hi
  | forcedPlug c first last offset => exact busForcedPlug_inv h hi
  | unplug c =>
    obtain ⟨d, _, h⟩ := withComponent_eq_next h
    split at h
    · cases h; exact hi
    · cases h
      exact
        { memory := hi.memory
          inBlocks := hi.inBlocks
          laid := hi.laid
          inBounds := by
            simp only [List.all_cons, Bool.and_eq_true]
            exact ⟨rfl, hi.inBounds⟩
          idle := hi.idle
          halted := hi.halted }
  | attachCpu =>
    cases h
    exact
      { memory := hi.memory
        inBlocks := hi.inBlocks
        laid := hi.laid
        inBounds := by
          simp only [attachCpu, List.all_cons, Bool.and_eq_true]
          exact ⟨rfl, rfl, hi.inBounds⟩
        idle := hi.idle
        halted := hi.halted }
  | load c image =>
    obtain ⟨d, _, h⟩ := withComponent_eq_next h
    split at h
    · cases h
    · rename_i id _
      cases h
      refine ⟨Memory.writeAll_wf _ _ _ hi.memory, ?_, hi.laid, hi.inBounds, hi.idle, hi.halted⟩
      by_cases hz : blockSize s.blocks id = 0
      · simpa [hz, Memory.writeAll] using hi.inBlocks
      · have := blockSize_le_storeSize s.blocks id 0 hi.laid (by omega)
        exact bytesInBlocks_writeAll _ _ _ _ hi.inBlocks (by simp; omega)

theorem recover_eq_next {r : Result} {s t : State} (h : recover r s = .next t) : r = .next t ∨ t = s := by
  unfold recover at h
  split at h
  · exact .inl h
  · cases h; exact .inr rfl
  · cases h
  · cases h

theorem applyMoves_inv {ms : List EnvMove} {s t : State} (h : applyMoves ms s = .next t) (hi : s.Inv) : t.Inv := by
  induction ms generalizing s with
  | nil => cases h; exact hi
  | cons m ms ih =>
    obtain ⟨u, hu, hms⟩ := onNext_eq_next h
    rcases recover_eq_next hu with hu | hu
    · exact ih hms (applyMove_inv hu hi)
    · exact ih hms (hu ▸ hi)

theorem envPhase_inv {s t : State} (h : envPhase s = .next t) (hi : s.Inv) : t.Inv := by
  unfold envPhase at h
  split at h
  · cases h; exact hi
  · exact applyMoves_inv h (hi.congr rfl rfl rfl rfl (.inl rfl) rfl)

theorem bootHook_inv {a : Word} {s t : State} (h : bootHook a s = .next t) (hi : s.Inv) : t.Inv := by
  unfold bootHook at h
  split at h
  · cases h; exact hi
  · split at h
    · exact applyMoves_inv h (hi.congr rfl rfl rfl rfl (.inl rfl) rfl)
    · cases h; exact hi

end Sys2Proof.Machine
end

