-- ==== Sys2Proof/Tests/Slice0.lean ====
section
/-! SUPPORT. Tests. Expected results are the spec's: the encodings of 30_encoding.md, and the vectors of 95_test_vectors.md, whose ids (A1,
W1, B1, L1, J1, T1, F1, S1) the names carry. The witnesses at the end show, for every statement with hypotheses, inputs that meet them. -/

namespace Sys2Proof.Tests

open Sys2Proof Sys2Proof.Machine Sys2Proof.Terms

/-! Well-formed bytes: one ill-formed string for each check, and its refusal (R116, R117). -/

theorem test_wellFormed_accepts : wellFormedBytes [0xC3, 0x00, 0x20] = true ∧ wellFormedBytes [0x76] = true := by decide
theorem test_wellFormed_refuses_empty : wellFormedBytes [] = false := by decide
theorem test_wellFormed_refuses_undefined :
    ∀ op ∈ [0xD3, 0xDB, 0xDD, 0xE3, 0xE4, 0xEB, 0xEC, 0xED, 0xF4, 0xFC, 0xFD], wellFormedBytes [op] = false := by decide
theorem test_wellFormed_refuses_short :
    wellFormedBytes [0x3E] = false ∧ wellFormedBytes [0xCD, 0x00] = false ∧ wellFormedBytes [0xCB] = false := by decide
theorem test_wellFormed_refuses_long : wellFormedBytes [0x00, 0x00] = false ∧ wellFormedBytes [0x06, 0x01, 0x02] = false := by decide

/-! The decoder refuses by name, and takes operand bytes low first. -/

theorem test_decode_rejects :
    decode [0xD3, 0x00] = .error (.unknown 0xD3) ∧ decode [] = .error .truncated ∧ decode [0xCB] = .error .truncated ∧
      decode [0xC3, 0x00] = .error .truncated := ⟨rfl, rfl, rfl, rfl⟩
theorem test_decode_undefined_bytes : ∀ op ∈ undefinedOpcodes, (decode [op, 0, 0]).isOk = false := by decide
theorem test_decode_alu :
    decode [0b10000000] = .ok (.addAB, []) ∧ decode [0b10011000] = .ok (.sbcAB, []) ∧ decode [0b10111110] = .ok (.cpAtHL, []) ∧
      decode [0b11101110, 0x3C] = .ok (.xorN8 0x3C, []) ∧ decode [0b00111100] = .ok (.incA, []) ∧
      decode [0b00110101] = .ok (.decAtHL, []) ∧ decode [0b00100111] = .ok (.daa, []) := ⟨rfl, rfl, rfl, rfl, rfl, rfl, rfl⟩
theorem test_decode_alu16 :
    decode [0b00111001] = .ok (.addHLSP, []) ∧ decode [0b00010011] = .ok (.incDE, []) ∧ decode [0b00101011] = .ok (.decHL, []) ∧
      decode [0b11101000, 0xFE] = .ok (.addSPE8 0xFE, []) ∧ decode [0b11111000, 0x02] = .ok (.ldHLSPE8 0x02, []) :=
  ⟨rfl, rfl, rfl, rfl, rfl⟩
theorem test_decode_rotate_bit :
    decode [0b00010111] = .ok (.rla, []) ∧ decode [0xCB, 0b00101110] = .ok (.sraAtHL, []) ∧
      decode [0xCB, 0b01100101] = .ok (.bit4L, []) ∧ decode [0xCB, 0b10011110] = .ok (.res3AtHL, []) ∧
      decode [0xCB, 0b11011111] = .ok (.set3A, []) := ⟨rfl, rfl, rfl, rfl, rfl⟩
theorem test_decode_load :
    decode [0b01110011] = .ok (.ldAtHLE, []) ∧ decode [0b00001000, 0x00, 0xC1] = .ok (.ldAtA16SP 0xC100, []) ∧
      decode [0b00110010] = .ok (.ldAtHLDecA, []) ∧ decode [0b11100000, 0x0F] = .ok (.ldhAtA8A 0x0F, []) ∧
      decode [0b11110010] = .ok (.ldAAtC, []) ∧ decode [0b11111010, 0x34, 0xC2] = .ok (.ldAAtA16 0xC234, []) ∧
      decode [0b11110001] = .ok (.popAF, []) ∧ decode [0b11000101] = .ok (.pushBC, []) := ⟨rfl, rfl, rfl, rfl, rfl, rfl, rfl, rfl⟩
theorem test_decode_control :
    decode [0b01110110] = .ok (.halt, []) ∧ decode [0b00010000, 0xD3] = .ok (.stop, []) ∧
      decode [0b11001100, 0x00, 0x20] = .ok (.callZA16 0x2000, []) ∧ decode [0b11011001] = .ok (.reti, []) ∧
      decode [0b11011000] = .ok (.retC, []) ∧ decode [0b00110000, 0xFD] = .ok (.jrNCE8 0xFD, []) ∧
      decode [0b11101001] = .ok (.jpHL, []) := ⟨rfl, rfl, rfl, rfl, rfl, rfl, rfl⟩
/-- The table's numbering: a base row is one byte, an extended row the pair 0xCBxx (R122). -/
theorem test_decodeTableWord :
    decodeTableWord 8 0x80 = some .addAB ∧ decodeTableWord 16 0xCB11 = some .rlC ∧ decodeTableWord 8 0xD3 = none ∧
      decodeTableWord 8 0xC3 = some (.jpA16 0) ∧ decodeTableWord 24 0x2000C3 = some (.jpA16 0x2000) := ⟨rfl, rfl, rfl, rfl, rfl⟩

/-! The bit functions and the ALU (95_test_vectors.md part 2). -/

/-- Flags by their letters. -/
def zf : Flags := { z := true, n := false, h := false, c := false }
def mk (z n h c : Bool) : Flags := { z := z, n := n, h := h, c := c }

theorem test_add8 :
    [ (add8 0x00 0x00 false, AluResult.mk 0x00 zf), (add8 0xFF 0x01 false, ⟨0x00, mk true false true true⟩),
      (add8 0x0F 0x00 true, ⟨0x10, mk false false true false⟩), (add8 0x80 0x80 false, ⟨0x00, mk true false false true⟩),
      (add8 0xFF 0xFF true, ⟨0xFF, mk false false true true⟩), (add8 0x7F 0x00 true, ⟨0x80, mk false false true false⟩),
      (add8 0xF0 0x10 false, ⟨0x00, mk true false false true⟩), (add8 0xFF 0x00 true, ⟨0x00, mk true false true true⟩) ].all
      (fun p => p.1 == p.2) = true := by decide
theorem test_sub8 :
    [ (sub8 0x00 0x00 false, AluResult.mk 0x00 (mk true true false false)), (sub8 0x00 0x01 false, ⟨0xFF, mk false true true true⟩),
      (sub8 0x10 0x01 false, ⟨0x0F, mk false true true false⟩), (sub8 0x00 0x00 true, ⟨0xFF, mk false true true true⟩),
      (sub8 0x00 0xFF true, ⟨0x00, mk true true true true⟩), (sub8 0x3B 0x2A true, ⟨0x10, mk false true false false⟩),
      (sub8 0x10 0x0F true, ⟨0x00, mk true true true false⟩), (sub8 0x3C 0x40 false, ⟨0xFC, mk false true false true⟩) ].all
      (fun p => p.1 == p.2) = true := by decide
theorem test_add16 :
    [ (add16Low 0x00FF 0x0001, AluResult.mk 0x0100 (mk false false true true)),
      (add16Low 0x000F 0x0001, ⟨0x0010, mk false false true false⟩),
      (add16Low 0x00F0 0x0010, ⟨0x0100, mk false false false true⟩), (add16Low 0xFFFE 0xFFFF, ⟨0xFFFD, mk false false true true⟩),
      (add16High 0x00FF 0x0001, ⟨0x0100, mk false false false false⟩), (add16High 0x0FFF 0x0001, ⟨0x1000, mk false false true false⟩),
      (add16High 0xFFFF 0x0001, ⟨0x0000, mk true false true true⟩), (add16High 0x8000 0x8000, ⟨0x0000, mk true false false true⟩) ].all
      (fun p => p.1 == p.2) = true := by decide
theorem test_shifts :
    [ (shift 0x80 .left, AluResult.mk 0x00 (mk true false false true)), (shift 0x81 .right, ⟨0x40, mk false false false true⟩),
      (shiftRA 0x80, ⟨0xC0, mk false false false false⟩), (shiftRA 0x01, ⟨0x00, mk true false false true⟩),
      (rotate 0x80 .left, ⟨0x01, mk false false false true⟩), (rotate 0x01 .right, ⟨0x80, mk false false false true⟩),
      (carryRotate 0x80 .left (mk false false false true), ⟨0x01, mk false false false true⟩),
      (carryRotate 0x01 .right (mk false false false false), ⟨0x00, mk true false false true⟩) ].all
      (fun p => p.1 == p.2) = true := by decide
theorem test_bits :
    lsb4 0xA7 = 0x7 ∧ msb4 0xA7 = 0xA ∧ merge4 0x07 0x0A = 0xA7 ∧ lo8 0x12A7 = 0xA7 ∧ hi8 0x12A7 = 0x12 ∧ merge8 0xA7 0x12 = 0x12A7 ∧
      bitGet 0x80 9 = true ∧ bitGet 0x01 (-1) = true ∧ bitSet 0x00 3 = 0x08 ∧ bitUnset 0xFF 0 = 0xFE ∧
      bitRotate 0x81 .left 1 = 0x03 ∧ bitRotate 0x81 .right 1 = 0xC0 ∧ bitRotate 0x12 .left 4 = 0x21 ∧
      bitRotate 0x12 .left 8 = 0x09 := by decide

/-! One instruction each (95_test_vectors.md parts 3 to 7). -/

/-- The state of those vectors: the whole address space RAM but for IF and IE, `pc` 0x0100, `sp` 0xFFFE, all else zero. -/
def flat : State :=
  { State.construction with
    cells := [⟨0xFFFF, 0xFFFF, .ieReg⟩, ⟨0xFF0F, 0xFF0F, .ifReg⟩, ⟨0x0000, 0xFFFF, .mem 0 0⟩]
    blocks := [⟨0, 65536⟩]
    pc := 0x0100
    sp := 0xFFFE }

/-- Whether one step, with bytes placed at `pc`, ends in a state of which `p` holds. -/
def after (bytes : List Byte) (s : State) (p : State → Bool) : Bool :=
  match step (pokeBytes s s.pc bytes) with
  | .next t => p t
  | _ => false

/-- Whether one step, with bytes placed at `pc`, faults with `f`. -/
def faults (bytes : List Byte) (s : State) (f : Fault) : Bool :=
  match step (pokeBytes s s.pc bytes) with
  | .fault g => g == f
  | _ => false

theorem test_A1_INC_B :
    after [0x04] { flat with regs.b := 0xFF, regs.f := .ofByte 0x10 }
      (fun t => t.regs.b == 0x00 && t.regs.f.toByte == 0xB0 && t.pc == 0x0101 && t.idle == 0) = true := by decide
theorem test_A4_INC_HL :
    after [0x34] (poke { flat with regs.h := 0xC0, regs.l := 0x00 } 0xC000 0x7F)
      (fun t => busRead t 0xC000 == 0x80 && t.regs.f.toByte == 0x20 && t.lastWrite == 0xC000 && t.idle == 2) = true := by decide
theorem test_A5_DEC_A :
    after [0x3D] { flat with regs.a := 0x00, regs.f := .ofByte 0x10 }
      (fun t => t.regs.a == 0xFF && t.regs.f.toByte == 0x70 && t.idle == 0) = true := by decide
theorem test_A7_ADD_A_A :
    after [0x87] { flat with regs.a := 0x80 }
      (fun t => t.regs.a == 0x00 && t.regs.f.toByte == 0x90 && t.idle == 0) = true := by decide
theorem test_A8_ADC_A_0x00 :
    after [0xCE, 0x00] { flat with regs.a := 0xFF, regs.f := .ofByte 0x10 }
      (fun t => t.regs.a == 0x00 && t.regs.f.toByte == 0xB0 && t.pc == 0x0102 && t.idle == 1) = true := by decide
theorem test_A10_SBC_A_B :
    after [0x98] { flat with regs.a := 0x00, regs.b := 0x00, regs.f := .ofByte 0x10 }
      (fun t => t.regs.a == 0xFF && t.regs.f.toByte == 0x70 && t.idle == 0) = true := by decide
theorem test_A11_SBC_A_0x0F :
    after [0xDE, 0x0F] { flat with regs.a := 0x10, regs.f := .ofByte 0x10 }
      (fun t => t.regs.a == 0x00 && t.regs.f.toByte == 0xE0 && t.idle == 1) = true := by decide
theorem test_A12_AND_A :
    after [0xA7] { flat with regs.a := 0x00, regs.f := .ofByte 0x50 }
      (fun t => t.regs.a == 0x00 && t.regs.f.toByte == 0xA0 && t.idle == 0) = true := by decide
theorem test_A13_XOR_A :
    after [0xAF] { flat with regs.a := 0xFF, regs.f := .ofByte 0xF0 }
      (fun t => t.regs.a == 0x00 && t.regs.f.toByte == 0x80 && t.idle == 0) = true := by decide
theorem test_A16_CP_HL :
    after [0xBE] (poke { flat with regs.a := 0x3C, regs.h := 0xC0, regs.l := 0x00 } 0xC000 0x40)
      (fun t => t.regs.a == 0x3C && t.regs.f.toByte == 0x50 && t.idle == 1) = true := by decide
theorem test_A17_DAA :
    after [0x27] { flat with regs.a := 0x7D, regs.f := .ofByte 0x00 }
      (fun t => t.regs.a == 0x83 && t.regs.f.toByte == 0x00 && t.idle == 0) = true := by decide
theorem test_A18_DAA :
    after [0x27] { flat with regs.a := 0x4B, regs.f := .ofByte 0x60 }
      (fun t => t.regs.a == 0x45 && t.regs.f.toByte == 0x40 && t.idle == 0) = true := by decide
theorem test_A19_DAA :
    after [0x27] { flat with regs.a := 0x9A, regs.f := .ofByte 0x00 }
      (fun t => t.regs.a == 0x00 && t.regs.f.toByte == 0x90 && t.idle == 0) = true := by decide
theorem test_A21_CPL :
    after [0x2F] { flat with regs.a := 0x35, regs.f := .ofByte 0x90 }
      (fun t => t.regs.a == 0xCA && t.regs.f.toByte == 0xF0 && t.idle == 0) = true := by decide
theorem test_A23_CCF :
    after [0x3F] { flat with regs.f := .ofByte 0xF0 } (fun t => t.regs.f.toByte == 0x80 && t.idle == 0) = true := by decide
/-- R153: `scratch` after SCF and CCF has value 0 and so Z. -/
theorem test_scratch_SCF_CCF :
    after [0x37] flat (fun t => t.scratch == ⟨0, .ofByte 0x90⟩ && t.regs.f.toByte == 0x10) = true ∧
      after [0x3F] { flat with regs.f := .ofByte 0x10 } (fun t => t.scratch == ⟨0, .ofByte 0x80⟩ && t.regs.f.toByte == 0x00) = true := by
  decide
theorem test_W1_ADD_HL_BC :
    after [0x09] { flat with regs.h := 0x8A, regs.l := 0x23, regs.b := 0x06, regs.c := 0x05, regs.f := .ofByte 0x80 }
      (fun t => t.hl == 0x9028 && t.regs.f.toByte == 0xA0 && t.idle == 1) = true := by decide
theorem test_W2_ADD_HL_HL :
    after [0x29] { flat with regs.h := 0x8A, regs.l := 0x23, regs.f := .ofByte 0x00 }
      (fun t => t.hl == 0x1446 && t.regs.f.toByte == 0x30 && t.idle == 1) = true := by decide
theorem test_W3_ADD_HL_SP :
    after [0x39] { flat with regs.h := 0xFF, regs.l := 0xFF, sp := 0x0001, regs.f := .ofByte 0x80 }
      (fun t => t.hl == 0x0000 && t.regs.f.toByte == 0xB0 && t.idle == 1) = true := by decide
theorem test_W4_INC_BC :
    after [0x03] { flat with regs.b := 0xFF, regs.c := 0xFF, regs.f := .ofByte 0xF0 }
      (fun t => t.bc == 0x0000 && t.regs.f.toByte == 0xF0 && t.idle == 1) = true := by decide
theorem test_W8_ADD_SP_8 :
    after [0xE8, 0x08] { flat with sp := 0xFFF8, regs.f := .ofByte 0xF0 }
      (fun t => t.sp == 0x0000 && t.regs.f.toByte == 0x30 && t.idle == 3) = true := by decide
theorem test_W9_ADD_SP_2 :
    after [0xE8, 0xFE] { flat with sp := 0x0005 }
      (fun t => t.sp == 0x0003 && t.regs.f.toByte == 0x30 && t.idle == 3) = true := by decide
theorem test_W11_LD_HL_SP_2 :
    after [0xF8, 0x02] { flat with sp := 0xFFF8, regs.f := .ofByte 0xC0 }
      (fun t => t.hl == 0xFFFA && t.sp == 0xFFF8 && t.regs.f.toByte == 0x00 && t.idle == 2) = true := by decide
theorem test_B1_RLCA :
    after [0x07] { flat with regs.a := 0x85, regs.f := .ofByte 0xE0 }
      (fun t => t.regs.a == 0x0B && t.regs.f.toByte == 0x10 && t.idle == 0) = true := by decide
theorem test_B3_RRCA :
    after [0x0F] { flat with regs.a := 0x3B }
      (fun t => t.regs.a == 0x9D && t.regs.f.toByte == 0x10 && t.idle == 0) = true := by decide
theorem test_B5_RLA :
    after [0x17] { flat with regs.a := 0x80, regs.f := .ofByte 0x00 }
      (fun t => t.regs.a == 0x00 && t.regs.f.toByte == 0x10 && t.idle == 0) = true := by decide
theorem test_B7_RLC_B :
    after [0xCB, 0x00] { flat with regs.b := 0x85 }
      (fun t => t.regs.b == 0x0B && t.regs.f.toByte == 0x10 && t.pc == 0x0102 && t.idle == 1) = true := by decide
theorem test_B11_RR_A :
    after [0xCB, 0x1F] { flat with regs.a := 0x01, regs.f := .ofByte 0x00 }
      (fun t => t.regs.a == 0x00 && t.regs.f.toByte == 0x90 && t.idle == 1) = true := by decide
theorem test_B12_RR_HL :
    after [0xCB, 0x1E] (poke { flat with regs.h := 0xC0, regs.l := 0x00, regs.f := .ofByte 0x10 } 0xC000 0x8A)
      (fun t => busRead t 0xC000 == 0xC5 && t.regs.f.toByte == 0x00 && t.idle == 3) = true := by decide
theorem test_B14_SLA_HL :
    after [0xCB, 0x26] (poke { flat with regs.h := 0xC0, regs.l := 0x00 } 0xC000 0xFF)
      (fun t => busRead t 0xC000 == 0xFE && t.regs.f.toByte == 0x10 && t.idle == 3) = true := by decide
theorem test_B16_SRA_HL :
    after [0xCB, 0x2E] (poke { flat with regs.h := 0xC0, regs.l := 0x00 } 0xC000 0x01)
      (fun t => busRead t 0xC000 == 0x00 && t.regs.f.toByte == 0x90 && t.idle == 3) = true := by decide
theorem test_B18_SWAP_HL :
    after [0xCB, 0x36] (poke { flat with regs.h := 0xC0, regs.l := 0x00, regs.f := .ofByte 0xF0 } 0xC000 0xF1)
      (fun t => busRead t 0xC000 == 0x1F && t.regs.f.toByte == 0x00 && t.idle == 3) = true := by decide
theorem test_B20_SRL_HL :
    after [0xCB, 0x3E] (poke { flat with regs.h := 0xC0, regs.l := 0x00 } 0xC000 0xFF)
      (fun t => busRead t 0xC000 == 0x7F && t.regs.f.toByte == 0x10 && t.idle == 3) = true := by decide
theorem test_B22_BIT_4_L :
    after [0xCB, 0x65] { flat with regs.l := 0xEF, regs.f := .ofByte 0x00 }
      (fun t => t.regs.l == 0xEF && t.regs.f.toByte == 0xA0 && t.idle == 1) = true := by decide
theorem test_B23_BIT_0_HL :
    after [0xCB, 0x46] (poke { flat with regs.h := 0xC0, regs.l := 0x00, regs.f := .ofByte 0x50 } 0xC000 0xFE)
      (fun t => t.regs.f.toByte == 0xB0 && t.lastWrite == 0x0000 && t.idle == 2) = true := by decide
theorem test_B27_SET_7_HL :
    after [0xCB, 0xFE] (poke { flat with regs.h := 0xC0, regs.l := 0x00 } 0xC000 0x00)
      (fun t => busRead t 0xC000 == 0x80 && t.idle == 3) = true := by decide
theorem test_L1_LD_B_C :
    after [0x41] { flat with regs.b := 0x01, regs.c := 0x99, regs.f := .ofByte 0xF0 }
      (fun t => t.regs.b == 0x99 && t.regs.f.toByte == 0xF0 && t.idle == 0) = true := by decide
theorem test_L7_LD_DE_A :
    after [0x12] { flat with regs.d := 0xC0, regs.e := 0x20, regs.a := 0x22 }
      (fun t => busRead t 0xC020 == 0x22 && t.lastWrite == 0xC020 && t.idle == 1) = true := by decide
theorem test_L8_LD_A_HL :
    after [0x2A] { flat with regs.h := 0xFF, regs.l := 0xFF, ie := 0x1F }
      (fun t => t.regs.a == 0x1F && t.hl == 0x0000 && t.idle == 1) = true := by decide
theorem test_L18_LD_BC_0x1234 :
    after [0x01, 0x34, 0x12] flat (fun t => t.regs.b == 0x12 && t.regs.c == 0x34 && t.idle == 2) = true := by decide
theorem test_L20_LD_0xC100_SP :
    after [0x08, 0x00, 0xC1] { flat with sp := 0xFFF8 }
      (fun t => busRead t 0xC100 == 0xF8 && busRead t 0xC101 == 0xFF && t.lastWrite == 0xC100 && t.idle == 4) = true := by decide
theorem test_L21_LD_0xFFFF_SP :
    after [0x08, 0xFF, 0xFF] { flat with sp := 0x1234 }
      (fun t => t.ie == 0x34 && busRead t 0x0000 == 0x12 && t.lastWrite == 0xFFFF && t.idle == 4) = true := by decide
theorem test_L23_PUSH_BC :
    after [0xC5] { flat with regs.b := 0x12, regs.c := 0x34 }
      (fun t => t.sp == 0xFFFC && busRead t 0xFFFC == 0x34 && busRead t 0xFFFD == 0x12 && t.lastWrite == 0xFFFC &&
        t.idle == 3) = true := by decide
theorem test_L25_POP_AF :
    after [0xF1] (poke (poke { flat with sp := 0xD000 } 0xD000 0xFF) 0xD001 0x12)
      (fun t => t.regs.a == 0x12 && t.regs.f.toByte == 0xF0 && t.sp == 0xD002 && t.idle == 2) = true := by decide
theorem test_L27_POP_HL :
    after [0xE1] (poke { flat with sp := 0xFFFF, ie := 0x15 } 0x0000 0xAB)
      (fun t => t.regs.l == 0x15 && t.regs.h == 0xAB && t.sp == 0x0001 && t.idle == 2) = true := by decide
theorem test_L28_PUSH_BC :
    after [0xC5] { flat with sp := 0x0001, regs.b := 0xBE, regs.c := 0xEF }
      (fun t => t.sp == 0x0001 && busRead t 0x0001 == 0xEF && busRead t 0x0002 == 0xBE && t.lastWrite == 0x0001 &&
        t.idle == 3) = true := by decide
theorem test_L29_LDH_0x0F_A :
    after [0xE0, 0x0F] { flat with regs.a := 0xFF }
      (fun t => t.iflag == 0xFF && t.lastWrite == 0xFF0F && t.idle == 2) = true := by decide
theorem test_L31_LD_0xFFFF_A :
    after [0xEA, 0xFF, 0xFF] { flat with regs.a := 0xE4 }
      (fun t => t.ie == 0xE4 && t.lastWrite == 0xFFFF && t.idle == 3) = true := by decide
theorem test_J2_JP_NZ_0x2000 :
    after [0xC2, 0x00, 0x20] { flat with regs.f := .ofByte 0x00 }
      (fun t => t.pc == 0x2000 && t.idle == 3) = true := by decide
theorem test_J3_JP_NZ_0x2000 :
    after [0xC2, 0x00, 0x20] { flat with regs.f := .ofByte 0x80 }
      (fun t => t.pc == 0x0103 && t.idle == 2) = true := by decide
theorem test_J5_JP_HL :
    after [0xE9] { flat with regs.h := 0x43, regs.l := 0x21 } (fun t => t.pc == 0x4321 && t.idle == 0) = true := by decide
theorem test_J7_JR_2 :
    after [0x18, 0xFE] flat (fun t => t.pc == 0x0100 && t.idle == 2) = true := by decide
theorem test_J10_JR_Z_16 :
    after [0x28, 0x10] { flat with regs.f := .ofByte 0x80 } (fun t => t.pc == 0x0112 && t.idle == 2) = true := by decide
theorem test_J13_CALL_0x2000 :
    after [0xCD, 0x00, 0x20] flat
      (fun t => t.pc == 0x2000 && t.sp == 0xFFFC && busRead t 0xFFFC == 0x03 && busRead t 0xFFFD == 0x01 &&
        t.lastWrite == 0xFFFC && t.idle == 5) = true := by decide
/-- R87 (a), R109, R286: the push of CALL at 0x0100 with SP 0x0103 overlies its operand bytes, which it reads afterwards. -/
theorem test_CALL_over_operand :
    after [0xCD, 0x00, 0x20] { flat with sp := 0x0103 } (fun t => t.pc == 0x0103 && t.sp == 0x0101 && t.lastWrite == 0x0101) = true ∧
      after [0xC4, 0x00, 0x20] { flat with sp := 0x0102 } (fun t => t.pc == 0x2001 && t.sp == 0x0100) = true := by decide
theorem test_J14_CALL_Z_0x2000 :
    after [0xCC, 0x00, 0x20] { flat with regs.f := .ofByte 0x00 }
      (fun t => t.pc == 0x0103 && t.sp == 0xFFFE && t.idle == 2) = true := by decide
theorem test_J16_RET :
    after [0xC9] (poke (poke { flat with sp := 0xD000 } 0xD000 0x03) 0xD001 0x01)
      (fun t => t.pc == 0x0103 && t.sp == 0xD002 && t.idle == 3) = true := by decide
theorem test_J17_RET_C :
    after [0xD8] (poke (poke { flat with sp := 0xD000, regs.f := .ofByte 0x10 } 0xD000 0x03) 0xD001 0x01)
      (fun t => t.pc == 0x0103 && t.sp == 0xD002 && t.idle == 4) = true := by decide
theorem test_J18_RET_C :
    after [0xD8] (poke (poke { flat with sp := 0xD000, regs.f := .ofByte 0x00 } 0xD000 0x03) 0xD001 0x01)
      (fun t => t.pc == 0x0101 && t.sp == 0xD000 && t.idle == 1) = true := by decide
theorem test_J19_RETI :
    after [0xD9] (poke (poke { flat with sp := 0xD000, ime := false } 0xD000 0x03) 0xD001 0x01)
      (fun t => t.pc == 0x0103 && t.sp == 0xD002 && t.ime == true && t.idle == 3) = true := by decide
theorem test_J20_RST_0x28 :
    after [0xEF] flat
      (fun t => t.pc == 0x0028 && t.sp == 0xFFFC && busRead t 0xFFFC == 0x01 && busRead t 0xFFFD == 0x01 && t.idle == 3) = true := by decide
theorem test_J22_EI :
    after [0xFB] { flat with ime := false } (fun t => t.ime == true && t.pc == 0x0101 && t.idle == 0) = true := by decide
theorem test_J23_DI :
    after [0xF3] { flat with ime := true } (fun t => t.ime == false && t.idle == 0) = true := by decide
theorem test_J24_NOP :
    after [0x00] { flat with regs.f := .ofByte 0xF0 } (fun t => t.pc == 0x0101 && t.idle == 0) = true := by decide
theorem test_J25_STOP :
    after [0x10, 0xD3] flat (fun t => t.pc == 0x0102 && t.idle == 0) = true := by decide
theorem test_J26_HALT :
    after [0x76] flat (fun t => t.halt == true && t.pc == 0x0101 && t.idle == 0) = true := by decide
/-! The machine cycle (95_test_vectors.md part 7, T, F and S vectors; one step each). -/

/-- TIMA, TMA and TAC in the flat state. -/
def timer (counter : Word) (tima tma tac : Byte) : State := { pokeBytes flat 0xFF05 [tima, tma, tac] with counter := counter }

theorem test_T3_priority :
    after [0x00] { flat with ime := true, ie := 0x06, iflag := 0x06 }
      (fun t => t.pc == 0x0048 && t.iflag == 0x04 && t.ime == false && t.sp == 0xFFFC && busRead t 0xFFFD == 0x01 && t.idle == 5)
      = true := by decide
theorem test_T4_masked :
    after [0x00] { flat with ie := 0x1F, iflag := 0x1F } (fun t => t.pc == 0x0101 && t.iflag == 0x1F && t.sp == 0xFFFE) = true := by
  decide
theorem test_T5_div_write :
    after [0xE0, 0x04] { timer 0x0008 0x00 0x00 0x05 with regs.a := 0x77 }
      (fun t => t.counter == 0 && busRead t 0xFF05 == 0x01 && busRead t 0xFF04 == 0x77 && t.lastWrite == 0xFF04) = true := by decide
theorem test_T6_tac_off : after [0xE0, 0x07] (timer 0x0008 0x00 0x00 0x05) (fun t => busRead t 0xFF05 == 0x01) = true := by decide
theorem test_T7_tac_select :
    after [0xE0, 0x07] { timer 0x0008 0x00 0x00 0x05 with regs.a := 0x04 } (fun t => busRead t 0xFF05 == 0x01) = true := by decide
theorem test_T8_falling_edge :
    after [] (timer 0x03FC 0x10 0x00 0x04) (fun t => busRead t 0xFF04 == 0x04 && busRead t 0xFF05 == 0x11) = true := by decide
theorem test_T9_rising_edge : after [] (timer 0x01FC 0x10 0x00 0x04) (fun t => busRead t 0xFF05 == 0x10) = true := by decide
theorem test_T10_overflow :
    after [] (timer 0x03FC 0xFF 0xAB 0x04) (fun t => busRead t 0xFF05 == 0xAB && t.iflag == 0x04) = true := by decide
theorem test_T2_wake_without_ime :
    after [0x04] { timer 0x000C 0xFF 0x00 0x05 with halt := true, ie := 0x04 }
      (fun t => t.halt == false && t.regs.b == 0x01 && t.iflag == 0x04 && busRead t 0xFF05 == 0x00) = true := by decide
theorem test_T11_request_waits :
    after [0xCD, 0x00, 0x02] { flat with ime := true, ie := 0x01, env := [[.request .vblank]] }
      (fun t => t.pc == 0x0200 && t.iflag == 0x01 && t.idle == 5 && t.env.isEmpty) = true := by decide
theorem test_F1_unmapped_store :
    faults [0x77] { State.reset with regs.h := 0xFE, regs.l := 0xA0 } (.unmappedWrite 0xFEA0) = true := by decide
theorem test_F2_undefined_opcode : faults [0xD3] flat (.unknownInstruction 0xD3 0x0100) = true := by decide
theorem test_F3_unmapped_fetch :
    after [] { State.reset with pc := 0xFEA0, sp := 0xC004 } (fun t => t.pc == 0x0038 && busRead t 0xC002 == 0xA1) = true := by decide
/-- S5: plugging over a mapped range fails; after the unplug the identical range can be plugged. -/
theorem test_S5_plug :
    (match busPlug 3 0xD000 0xD09F State.reset with | .fault e => e == .addressError .overlap | _ => false) = true ∧
      (match applyMoves [.unplug 6, .unplug 2, .plug 3 0xD000 0xD09F, .plug 2 0xC000 0xDFFF] State.reset with
        | .next t => t.place 0xD000 == .mem 24576 && t.place 0xC000 == .unmapped
        | _ => false) = true := by decide
theorem test_S7_lowest_line : ifIeCompare 0b00110 0b00110 = some .lcdStat := by decide
/-- R363: the assembly ends in reset, and a failure during it (here a range plugged twice) is fatal. -/
theorem test_assembly :
    (match assemblePlatform with | .next t => t == State.reset | _ => false) = true ∧
      (match assemble [.create 16, .create 16, .plug 0 0xC000 0xC00F, .plug 1 0xC000 0xC00F, .attachCpu] State.construction with
        | .fault e => e == .addressError .overlap
        | _ => false) = true := by decide
/-- R84: the store to 0xFF50 shows the cartridge under the boot ROM. -/
theorem test_boot_disable :
    after [0xE0, 0x50] State.reset (fun t => t.place 0x0000 == .mem 24991 && t.bootListener == none && isPlugged t 8 == false) = true := by
  decide
/-- The host's probe: step runs the placed instruction first after reset. -/
theorem test_withFetchWord :
    (match step (State.reset.withFetchWord 8 0x3C) with | .next t => t.regs.a == 0x01 && t.pc == 1 | _ => false) = true ∧
      (match step (State.reset.withFetchWord 16 0xCBC7) with | .next t => t.regs.a == 0x01 && t.pc == 2 | _ => false) = true ∧
      (match step (State.reset.withFetchWord 8 0xCD) with | .next t => t.pc == 0 && t.sp == 0 | _ => false) = true := by decide
/-- R64 and R83: a store through the echo is seen in working RAM. -/
theorem test_echo :
    after [0x77] { State.reset with regs.a := 0x5A, regs.h := 0xE1 } (fun t => busRead t 0xC100 == 0x5A && busRead t 0xE100 == 0x5A)
      = true := by decide

/-! Witnesses. -/

/-- The reset state with HL, SP and A set. -/
def at_ (hl sp : Word) : State := { State.reset with regs.h := hi8 hl, regs.l := lo8 hl, sp := sp, regs.a := 0x5A }

/-- IncDecMemoryResult, ShiftMemoryResult, ResSetMemoryResult and StoreByteResult, with HL in RAM, on IE, and at 0x0000. -/
theorem witness_ByteMapped_HL :
    ByteMapped (at_ 0xC000 0) (at_ 0xC000 0).hl ∧ ByteMapped (at_ 0xFFFF 0) (at_ 0xFFFF 0).hl ∧
      ByteMapped (at_ 0x0000 0) (at_ 0x0000 0).hl := ⟨⟨rfl, by decide⟩, ⟨rfl, by decide⟩, ⟨rfl, by decide⟩⟩
/-- StoreByteResult: the other addresses. -/
theorem witness_StoreByte :
    ByteMapped State.reset State.reset.bc ∧ ByteMapped State.reset State.reset.de ∧ ByteMapped State.reset (window 0xFF) ∧
      ByteMapped State.reset (window State.reset.regs.c) ∧ ByteMapped State.reset 0xFE9F ∧ ByteMapped State.reset 0xFF00 :=
  ⟨⟨rfl, by decide⟩, ⟨rfl, by decide⟩, ⟨rfl, by decide⟩, ⟨rfl, by decide⟩, ⟨rfl, by decide⟩, ⟨rfl, by decide⟩⟩
/-- StoreWordResult and WordRoundTrip: a word across the top of the address space, and pushes with SP at 0xFFFE, 2, 1 and 0. -/
theorem witness_WordMapped :
    WordMapped State.reset 0xFFFF ∧ WordMapped (at_ 0 0xFFFE) (pushAt (at_ 0 0xFFFE)) ∧ WordMapped (at_ 0 2) (pushAt (at_ 0 2)) ∧
      WordMapped (at_ 0 1) (pushAt (at_ 0 1)) ∧ WordMapped (at_ 0 0) (pushAt (at_ 0 0)) :=
  ⟨⟨rfl, by decide, by decide⟩, ⟨rfl, by decide, by decide⟩, ⟨rfl, by decide, by decide⟩, ⟨rfl, by decide, by decide⟩,
    ⟨rfl, by decide, by decide⟩⟩
theorem witness_WordRoundTrip :
    State.reset.place 0xFFFF ≠ State.reset.place (0xFFFF + 1) ∧
      ((at_ 0 2).place (pushAt (at_ 0 2)) ≠ (at_ 0 2).place (pushAt (at_ 0 2) + 1) ∧ 2 ≤ (at_ 0 2).sp.toNat) ∧
      ((at_ 0 1).place (pushAt (at_ 0 1)) ≠ (at_ 0 1).place (pushAt (at_ 0 1) + 1) ∧ (at_ 0 1).sp.toNat < 2) := by decide
/-- CallResult: the push on the operand bytes, off them, and its high byte alone on the first of them. -/
def calling (sp : Word) : State := { State.reset with mem := [(16384, 0xCD), (16386, 0x20)], pc := 0xC000, sp := sp }
theorem witness_RunsCalling_off :
    WordMapped (calling 0xD000) (pushAt (calling 0xD000)) ∧ wordAt (calling 0xD000) ((calling 0xD000).pc + 1) = 0x2000 ∧
      PushOffOperand (calling 0xD000) :=
  ⟨⟨rfl, by decide, by decide⟩, by decide, by
    unfold PushOffOperand
    simp only [List.mem_cons, List.not_mem_nil, or_false, forall_eq_or_imp, forall_eq]
    exact ⟨⟨by decide, by decide⟩, by decide, by decide⟩⟩
theorem witness_RunsCalling_on (sp : Word) (h : sp = 0xC003 ∨ sp = 0xC002) :
    WordMapped (calling sp) (pushAt (calling sp)) ∧ ¬ PushOffOperand (calling sp) := by
  rcases h with rfl | rfl
  · exact ⟨⟨rfl, by decide, by decide⟩, fun h => (h 0xC001 (.head _)).1 (by decide)⟩
  · exact ⟨⟨rfl, by decide, by decide⟩, fun h => (h 0xC001 (.head _)).2 (by decide)⟩
/-- CallResult: each condition holds somewhere and fails somewhere. -/
theorem witness_CallResult :
    ∀ cc ∈ [Cond.nz, .z, .nc, .c],
      (condHolds cc (mk true true true true) = true ∨ condHolds cc (mk false false false false) = true) ∧
        (condHolds cc (mk true true true true) = false ∨ condHolds cc (mk false false false false) = false) := by decide
theorem witness_AccumulatorRotateResult :
    (Instr.rra, ShiftOp.rr) ∈ [(Instr.rlca, ShiftOp.rlc), (.rrca, .rrc), (.rla, .rl), (.rra, .rr)] := by decide
theorem witness_ControlResult (s : State) :
    (Instr.halt, { s with pc := s.pc + 1, halt := true }) ∈
      [ (Instr.nop, { s with pc := s.pc + 1 }), (.stop, { s with pc := s.pc + 2 }),
        (.halt, { s with pc := s.pc + 1, halt := true }), (.di, { s with pc := s.pc + 1, ime := false }),
        (.ei, { s with pc := s.pc + 1, ime := true }) ] := by simp
/-- ExecFaultsExactlyOnUnmappedStore: a byte, the low byte of a push, its high byte alone, and no unmapped store. -/
theorem witness_ExecFaults :
    firstUnmapped .ldAtHLA (at_ 0xFEA0 0) = some 0xFEA0 ∧ firstUnmapped .pushBC (at_ 0 0xFEFF) = some 0xFEFD ∧
      firstUnmapped .pushBC (at_ 0 0xFEA1) = some 0xFEA0 ∧ firstUnmapped .pushBC (at_ 0 0xFE9F) = none ∧
      firstUnmapped (.callNZA16 0) { at_ 0 0xFEFF with regs.f := zf } = none := by decide
/-- ExecFrame, StatusFrame and LengthAndCost: an instruction that stores and one that does not, and addresses outside the store. -/
theorem witness_ExecFrame_runs :
    Memory.wf (at_ 0xC000 0).mem = true ∧ ∃ t, exec .ldAtHLA (at_ 0xC000 0) = .next t := by
  refine ⟨rfl, ?_⟩
  rw [show exec .ldAtHLA (at_ 0xC000 0) = mapNext (memWrite8 (at_ 0xC000 0) (at_ 0xC000 0).hl (at_ 0xC000 0).regs.a) (retire 1 2) from rfl,
    memWrite8_mapped _ _ _ (by decide)]
  exact ⟨_, rfl⟩
theorem witness_ExecFrame_elsewhere :
    ∀ a ∈ storedAddresses .ldAtHLA (at_ 0xC000 0),
      (at_ 0xC000 0).place 0xC001 ≠ (at_ 0xC000 0).place a ∧ (at_ 0xC000 0).place a ≠ .mem 0 ∧
        (at_ 0xC000 0).place a ≠ .ieReg ∧ (at_ 0xC000 0).place a ≠ .ifReg := by
  rw [show storedAddresses .ldAtHLA (at_ 0xC000 0) = [0xC000] from rfl]
  simp only [List.mem_singleton, forall_eq]
  exact ⟨by decide, by decide, by decide, by decide⟩
theorem witness_StatusFrame :
    (∃ t, exec (.ldBN8 1) State.reset = .next t) ∧ (Instr.ldBN8 1).row.family ≠ .alu ∧ Instr.ldBN8 1 ≠ .popAF := ⟨⟨_, rfl⟩, by decide⟩
/-- LengthAndCost: a transfer and a fall through of each kind; JP cc on each side of its condition, and NOP of the same family. -/
theorem witness_transfers :
    Transfers (.jrE8 5) State.reset.regs.f ∧ Transfers (.jpNZA16 0x1234) State.reset.regs.f ∧ Instr.nop.row.family = .control :=
  ⟨.inr (.inr (.inl ⟨5, rfl⟩)), .inr (.inr (.inr (.inr (.inr (.inr (.inr ⟨.nz, rfl, .inl ⟨0x1234, rfl⟩⟩)))))), rfl⟩
theorem witness_falls_through (i : Instr) (h : i = .nop ∨ i = .jpZA16 0x1234) : ¬ Transfers i State.reset.regs.f := by
  rcases h with rfl | rfl <;>
    rintro (⟨_, h⟩ | h | ⟨_, h⟩ | ⟨_, h⟩ | ⟨n, h⟩ | h | h | ⟨cc, hc, ⟨_, h⟩ | ⟨_, h⟩ | ⟨_, h⟩ | h⟩)
  all_goals first
    | cases h
    | fin_cases n <;> cases h
    | cases cc <;> first | exact absurd hc (by decide) | cases h
theorem witness_LengthAndCost : (∃ t, exec (.jrE8 5) State.reset = .next t) ∧ ∃ t, exec .nop State.reset = .next t :=
  ⟨⟨_, rfl⟩, ⟨_, rfl⟩⟩
/-- Add8IsCarryChain, Sub8IsBorrowChain, ShiftFunctions and BitFunctions: the bit indices. -/
theorem witness_bit_index : (0 : Nat) < 8 ∧ 7 < 8 := by decide
theorem witness_PairsShareRegisters : Reg16.bc ≠ .sp ∧ StackPair.af ≠ .hl := by decide
theorem witness_OperandAccess :
    Reg8.b ≠ .a ∧ ByteMapped (at_ 0xFE9F 0) (at_ 0xFE9F 0).hl ∧ (at_ 0xFEFF 0).place (at_ 0xFEFF 0).hl = .unmapped :=
  ⟨by decide, ⟨rfl, by decide⟩, by decide⟩
/-- BusAccess: the addresses on both sides of the unmapped range, IE and IF. -/
theorem witness_BusAccess :
    State.reset.place 0xFEA0 = .unmapped ∧ State.reset.place 0xFEFF = .unmapped ∧ State.reset.place 0xFE9F = .mem 24735 ∧
      State.reset.place 0xFF00 = .mem 24736 ∧ State.reset.place 0xFFFF = .ieReg ∧ State.reset.place 0xFF0F = .ifReg ∧
      ByteMapped State.reset 0xFE9F := ⟨by decide, by decide, by decide, by decide, by decide, by decide, rfl, by decide⟩
theorem witness_reset_Inv : State.reset.Inv := by
  constructor
  case halted => exact fun h => by cases h
  all_goals decide
theorem witness_ComponentCreation : State.reset.Inv ∧ (0 : Nat) = 0 ∧ (1 : Nat) ≠ 0 := ⟨witness_reset_Inv, rfl, by decide⟩
/-- PlugNeedsFreeRange: a range that touches one mapped address, the largest free range, and component 2 on its own range. -/
theorem witness_PlugNeedsFreeRange :
    SomeMapped State.reset 0xFE9F 0xFEFF ∧ ¬ SomeMapped State.reset 0xFEA0 0xFEFF ∧
      State.reset.components[2]? = some ⟨some (0xC000, 0xDFFF), some 16384⟩ ∧
      (0xDFFF : Word).toNat - (0xC000 : Word).toNat + 1 ≤ blockSize State.reset.blocks 16384 := by
  refine ⟨⟨0xFE9F, by decide, by decide, by decide⟩, fun h => ?_, rfl, by decide⟩
  have := (rangeMapped_iff State.reset.cells 0xFEA0 0xFEFF (by decide)).2 h
  revert this
  decide
/-- MapMoves: the last range that fits, the first that does not, a reversed range; a plugged and an unplugged component. -/
theorem witness_MapMoves :
    State.reset.components[5]? = some ⟨some (0xFF80, 0xFFFE), some 24864⟩ ∧
      0 + ((0xC07E : Word).toNat - (0xC000 : Word).toNat + 1) ≤ Component.size ⟨some (0xFF80, 0xFFFE), some 24864⟩ State.reset.blocks ∧
      1 + ((0xC07E : Word).toNat - (0xC000 : Word).toNat + 1) > Component.size ⟨some (0xFF80, 0xFFFE), some 24864⟩ State.reset.blocks ∧
      (0xC001 : Word).toNat > (0xC000 : Word).toNat ∧
      (match busUnplug 5 State.reset with
        | .next t => (t.components[5]?).map Component.range == some none
        | _ => false) = true := by decide
/-- InterruptTaken: a mapped stack, an unmapped low byte, and an unmapped high byte alone, from a halted state. -/
def asking (sp : Word) : State := { at_ 0 sp with ime := true, ie := 0x14, iflag := 0x14, halt := true }
theorem witness_InterruptTaken :
    (asking 0).idle = 0 ∧ (asking 0).ime = true ∧ (asking 0).pending = some .timer ∧
      WordMapped (asking 0) (pushAt (asking 0)) ∧ (asking 0xFEFF).place (pushAt (asking 0xFEFF)) = .unmapped ∧
      (asking 0xFEA1).place (pushAt (asking 0xFEA1)) ≠ .unmapped ∧ (asking 0xFEA1).place (pushAt (asking 0xFEA1) + 1) = .unmapped :=
  ⟨rfl, rfl, by decide, ⟨rfl, by decide, by decide⟩, by decide, by decide, by decide⟩
theorem witness_IdleAndHaltedCycles :
    { State.reset with idle := 5 }.idle = 4 + 1 ∧
      ({ State.reset with halt := true }.iflag &&& { State.reset with halt := true }.ie &&& 0x1F = 0) ∧
      ((asking 0).idle = 0 ∧ (asking 0).halt = true ∧ (asking 0).iflag &&& (asking 0).ie &&& 0x1F ≠ 0) := by decide
/-- StepRunsDecodedInstruction, from reset with HALT at 0x0000. -/
theorem witness_StepRuns :
    ∃ t, timerCycle (State.reset.withFetchWord 8 0x76) = .next t ∧ t.dispatches ∧
      decode [busRead t t.pc, busRead t (t.pc + 1), busRead t (t.pc + 2)] = .ok (.halt, [0, 0]) :=
  ⟨_, rfl, ⟨rfl, by decide, by decide⟩, rfl⟩
/-- EncodedBytesAreDispatched, with the instruction across the top of the address space: IE is its first byte. -/
def wrapped : State := { poke (poke State.reset 0x0000 0x34) 0x0001 0x12 with pc := 0xFFFF, ie := 0x01 }
theorem witness_EncodedBytes : wrapped.dispatches ∧ BytesAtPc wrapped (Instr.ldBCN16 0x1234).encode := by
  refine ⟨⟨rfl, by decide, by decide⟩, fun k h => ?_⟩
  have h : k < 3 := h
  revert k
  decide
theorem witness_UnknownInstruction :
    State.dispatches { State.reset with ie := 0xED, pc := 0xFFFF } ∧ busRead { State.reset with ie := 0xED, pc := 0xFFFF } 0xFFFF = 0xED :=
  ⟨⟨rfl, by decide, by decide⟩, by decide⟩
theorem witness_AddressErrors : applyMove (.plug 3 0xD000 0xD09F) State.reset = .fault (.addressError .overlap) := rfl
theorem witness_assembly_failure :
    ∃ t, assemble [.create 16, .plug 0 0xC000 0xC00F] State.construction = .next t ∧
      applyMove (.plug 0 0xC000 0xC00F) t = .fault (.addressError .overlap) := ⟨_, rfl, rfl⟩
theorem witness_TimaIncrement :
    ByteMapped State.reset Config.timaAddr ∧ State.construction.place Config.timaAddr = .unmapped := ⟨⟨rfl, by decide⟩, rfl⟩
/-- TimerCycleCounts and TimerHookReacts. -/
theorem witness_TimerMapped : Memory.wf State.reset.mem = true ∧ TimerMapped State.reset :=
  ⟨rfl, 24740, 24741, 24742, 24743, by decide⟩
theorem witness_BootRomDisabledOnce :
    State.reset.bootListener = some ⟨8, 7⟩ ∧ State.reset.components[8]? = some ⟨some (0x0000, 0x00FF), some 57759⟩ ∧
      State.reset.components[7]? = some ⟨some (0x0000, 0x7FFF), some 24991⟩ ∧ 0x8000 ≤ blockSize State.reset.blocks 24991 ∧
      State.construction.bootListener = none := by decide
theorem witness_BootRomUnplugged :
    ∃ t, busUnplug 8 State.reset = .next t ∧ t.bootListener = some ⟨8, 7⟩ ∧
      ∀ boot, t.components[8]? = some boot → boot.range = none :=
  ⟨_, rfl, rfl, fun _ h => by cases h; rfl⟩
theorem witness_EncodeDecode : wellFormedBytes [0x10, 0xFF] = true ∧ wellFormedBytes [0x01, 0x34, 0x12] = true ∧
    (0xFD : Byte) ∈ undefinedOpcodes := by decide
theorem witness_EchoMirrors : 0x1DFF ≤ 0x1DFF ∧ 0xDE00 ≤ (0xDE00 : Word).toNat ∧ (0xDFFF : Word).toNat ≤ 0xDFFF := by decide
theorem witness_StepKeepsInvariant : State.reset.Inv ∧ ∃ t, step State.reset = .next t := ⟨witness_reset_Inv, _, rfl⟩

end Sys2Proof.Tests
end

