-- ==== Sys2Proof/Proofs/State.lean ====
section
/-! The register state: the proofs about spec/10_state.md. -/

namespace Sys2Proof.Machine

@[simp] theorem setAF_a (s : State) (v : Word) : (s.setAF v).regs.a = hi8 v := rfl
@[simp] theorem setAF_f (s : State) (v : Word) : (s.setAF v).regs.f = Flags.ofByte (lo8 v) := rfl

/-- A write of AF writes A and F alone. -/
theorem setAF_frame (s : State) (v : Word) :
    s.setAF v = { s with regs.a := (s.setAF v).regs.a, regs.f := (s.setAF v).regs.f } := rfl

/-- The byte of F after a write of AF: the low byte of the word, its low nibble cleared (R22). -/
theorem toByte_setAF_f (s : State) (v : Word) : (s.setAF v).regs.f.toByte = lo8 v &&& 0xF0 := by
  rw [setAF_f, toByte_ofByte]

/-- Settles O35: every write of F goes through `Flags.ofByte`, which keeps the four flags and drops the low nibble. -/
theorem writingAFClearsLowNibble : Obligations.WritingAFClearsLowNibble := by
  intro s v w
  exact ⟨setAF_a s v, toByte_setAF_f s v, af_setAF s v, setAF_frame s v, toByte_ofByte w, ofByte_toByte s.regs.f⟩

end Sys2Proof.Machine
end

