-- ==== Sys2Proof/Proofs/Memory.lean ====
section
/-! The bus and its mapping operations: the proofs about spec/20_memory.md. -/

namespace Sys2Proof.Machine

open Sys2Proof.Terms

/-! Reads and stores (R64, R74, R75). -/

theorem busRead_unmapped {s : State} {a : Word} (h : s.place a = .unmapped) : busRead s a = 0xFF := by
  simp [busRead, h]

theorem busRead_ieReg {s : State} {a : Word} (h : s.place a = .ieReg) : busRead s a = s.ie := by
  simp [busRead, h]

theorem busRead_ifReg {s : State} {a : Word} (h : s.place a = .ifReg) : busRead s a = s.iflag := by
  simp [busRead, h]

theorem busRead_mem {s : State} {a : Word} {k : Nat} (h : s.place a = .mem k) : busRead s a = Memory.read s.mem k := by
  simp [busRead, h]

/-- A store to a mapped address stores its byte in that cell and in no other. -/
theorem storedByte_poke {s : State} {a : Word} (h : ByteMapped s a) (v : Byte) : StoredByte s (poke s a v) a v := by
  obtain ⟨hwf, ha⟩ := h
  exact ⟨fun b => busRead_poke s a b v hwf ha, fun k => memRead_poke s a v k hwf, ie_poke s a v, iflag_poke s a v⟩

/-- What is stored does not depend on `last_write`. -/
@[simp] theorem storedByte_setLastWrite (s t : State) (a c : Word) (v : Byte) :
    StoredByte s (t.setLastWrite c) a v ↔ StoredByte s t a v := Iff.rfl

theorem sameButStore_poke (s : State) (a : Word) (v : Byte) : SameButStore s ((poke s a v).setLastWrite a) a :=
  congrArg (fun t => State.setLastWrite t a) (poke_frame s a v)

/-- Settles O38: a raw and a CPU store of a mapped byte are both one `poke`, which changes one cell. -/
theorem busAccess : Obligations.BusAccess := by
  intro s a v
  refine ⟨fun h => ?_, fun _ => busRead_mem, busRead_ieReg, busRead_ifReg, fun h => ?_⟩
  · exact ⟨busRead_unmapped h, busWrite_unmapped s a v h, memWrite8_unmapped s a v h⟩
  · have hst := storedByte_poke h v
    obtain ⟨_, ha⟩ := h
    exact ⟨⟨_, busWrite_mapped s a v ha, hst, poke_frame s a v⟩,
      ⟨_, memWrite8_mapped s a v ha, (storedByte_setLastWrite s _ a a v).2 hst, sameButStore_poke s a v⟩⟩

/-! Creating a component (R66). -/

theorem Memory.read_unlisted (m : List Host.Cell) (k : Nat) (h : ∀ c ∈ m, c.1 ≠ k) : Memory.read m k = Memory.blank := by
  induction m with
  | nil => rfl
  | cons c m ih =>
    obtain ⟨hc, hm⟩ := List.forall_mem_cons.1 h
    rw [Memory.read, if_neg hc, ih hm]

/-- Beyond the last block nothing has been stored. -/
theorem read_beyond_blocks {bs : List Block} {m : List Host.Cell} (h : bytesInBlocks bs m = true) {k : Nat}
    (hk : storeSize bs ≤ k) : Memory.read m k = 0x00 := by
  simp only [bytesInBlocks, List.all_eq_true, decide_eq_true_eq] at h
  exact Memory.read_unlisted m k fun c hc => by have := h c hc; omega

/-- Every block ends where the store does or before. -/
theorem block_end_le_storeSize {bs : List Block} {base : Nat} (h : blocksLaid base bs = true) :
    ∀ b ∈ bs, b.id + b.size ≤ base + storeSize bs := by
  induction bs generalizing base with
  | nil => simp
  | cons b bs ih =>
    simp only [blocksLaid, Bool.and_eq_true, beq_iff_eq] at h
    obtain ⟨⟨hid, _⟩, hbs⟩ := h
    have hsize : storeSize (b :: bs) = b.size + storeSize bs := rfl
    refine List.forall_mem_cons.2 ⟨by omega, fun c hc => ?_⟩
    have := ih hbs c hc
    omega

@[simp] theorem componentCreate_mem (size : Nat) (s : State) : (componentCreate size s).mem = s.mem := by
  unfold componentCreate; split <;> rfl

/-- Settles O40: the new block starts where the store ends, past every block and every byte ever stored. -/
theorem componentCreation : Obligations.ComponentCreation := by
  intro s size hs
  refine ⟨fun h0 => by rw [componentCreate, if_pos h0], fun h0 => ⟨storeSize s.blocks, ?_, ?_, ?_⟩⟩
  · rw [componentCreate, if_neg h0]
  · simpa using block_end_le_storeSize hs.laid
  · intro k hk
    rw [componentCreate_mem, read_beyond_blocks hs.inBlocks hk]

/-! Plugging and unplugging (R68 to R70). -/

theorem withComponent_some {s : State} {n : Nat} {c : Component} (h : s.components[n]? = some c)
    (f : Component → Result) : withComponent s n f = f c := by simp [withComponent, h]

theorem rangeMapped_iff_someMapped (s : State) (first last : Word) :
    rangeMapped s.cells first.toNat last.toNat = true ↔ SomeMapped s first last :=
  rangeMapped_iff s.cells first.toNat last.toNat last.isLt

theorem busPlug_mapped {s : State} {first last : Word} (h : SomeMapped s first last) (n : Nat) :
    busPlug n first last s = .fault (.addressError .overlap) := by
  rw [busPlug, if_pos ((rangeMapped_iff_someMapped s first last).2 h)]

theorem busPlug_free {s : State} {first last : Word} (h : ¬ SomeMapped s first last) (n : Nat) :
    busPlug n first last s = busForcedPlug n first last 0 s := by
  rw [busPlug, if_neg (mt (rangeMapped_iff_someMapped s first last).1 h)]

theorem busForcedPlug_fits {s : State} {n : Nat} {c : Component} {id offset : Nat} {first last : Word}
    (hc : s.components[n]? = some c) (hid : c.block = some id) (hle : first.toNat ≤ last.toNat)
    (hfit : offset + (last.toNat - first.toNat + 1) ≤ blockSize s.blocks id) :
    busForcedPlug n first last offset s =
      .next
        { s with
          components := s.components.set n { c with range := some (first, last) }
          cells := ⟨first, last, .mem id offset⟩ :: s.cells } := by
  simp [busForcedPlug, withComponent_some hc, hid, hle, hfit]

/-- A plug of a component whose block is large enough for a free range succeeds. -/
theorem exists_busPlug {s : State} {n : Nat} {c : Component} {id : Nat} {first last : Word}
    (hfree : ¬ SomeMapped s first last) (hc : s.components[n]? = some c) (hid : c.block = some id)
    (hle : first.toNat ≤ last.toNat) (hfit : last.toNat - first.toNat + 1 ≤ blockSize s.blocks id) :
    ∃ u, busPlug n first last s = .next u := by
  rw [busPlug_free hfree]
  exact ⟨_, busForcedPlug_fits hc hid hle (by rwa [Nat.zero_add])⟩

/-- The state after component `n`, which is `c` and stands at `first` to `last`, is unplugged (R70): see `busUnplug_plugged`. -/
def State.unplugged (s : State) (n : Nat) (c : Component) (first last : Word) : State :=
  { s with
    components := s.components.set n { c with range := none }
    cells := ⟨first, last, .unmapped⟩ :: s.cells }

theorem busUnplug_plugged {s : State} {n : Nat} {c : Component} {first last : Word}
    (hc : s.components[n]? = some c) (hr : c.range = some (first, last)) :
    busUnplug n s = .next (s.unplugged n c first last) := by
  simp [busUnplug, withComponent_some hc, hr, State.unplugged]

theorem components_unplugged {s : State} {n : Nat} {c : Component} (hc : s.components[n]? = some c) (first last : Word) :
    (s.unplugged n c first last).components[n]? = some { c with range := none } :=
  List.getElem?_set_self (List.getElem?_eq_some_iff.1 hc).1

@[simp] theorem blocks_unplugged (s : State) (n : Nat) (c : Component) (first last : Word) :
    (s.unplugged n c first last).blocks = s.blocks := rfl

/-- The map after an unplug: the range is unmapped, whatever older stretches had there, and the rest is as it was. -/
theorem place_unplugged (s : State) (n : Nat) (c : Component) (first last a : Word) :
    (s.unplugged n c first last).place a =
      if first.toNat ≤ a.toNat ∧ a.toNat ≤ last.toNat then .unmapped else s.place a := by
  simp [State.unplugged, State.place, placeIn, Segment.holds, Segment.placeOf]

theorem not_someMapped_unplugged (s : State) (n : Nat) (c : Component) (first last : Word) :
    ¬ SomeMapped (s.unplugged n c first last) first last := by
  rintro ⟨a, hfirst, hlast, ha⟩
  exact ha ((place_unplugged s n c first last a).trans (if_pos ⟨hfirst, hlast⟩))

/-- Settles O41: the search by stretches finds a mapped address iff there is one, and an unplug leaves none in its range. -/
theorem plugNeedsFreeRange : Obligations.PlugNeedsFreeRange := by
  intro s n first last
  refine ⟨fun h => busPlug_mapped h n, fun h => busPlug_free h n, fun c id hc hr hid hle hfit => ?_⟩
  have hfree := not_someMapped_unplugged s n c first last
  obtain ⟨u, hu⟩ := exists_busPlug hfree (components_unplugged hc first last) hid hle hfit
  exact ⟨_, u, busUnplug_plugged hc hr, hu⟩

end Sys2Proof.Machine
end

/-! Operands, conditions and flag composition: the proofs about spec/30_encoding.md. -/

namespace Sys2Proof.Machine

open Sys2Proof.Terms

/-! Condition codes and flag composition (R111, R112). -/

/-- The flag a condition code tests, and the value that makes it hold (R111). -/
theorem condHolds_iff (cc : Cond) (f : Flags) :
    condHolds cc f = true ↔
      match cc with
      | .nz => f.z = false
      | .z => f.z = true
      | .nc => f.c = false
      | .c => f.c = true := by
  cases cc <;> simp [condHolds]

/-- The choice R112 words, force-clear first: the last case keeps the current flag. -/
theorem FlagSource.pick_eq_ite (src : FlagSource) (alu old : Bool) :
    src.pick alu old = if src = .clear then false else if src = .set then true else if src = .alu then alu else old := by
  cases src <;> rfl

/-- The low nibble of F is zero: the byte of the four flags ends in four zero bits (R23). -/
theorem toByte_toNat_mod_16 (f : Flags) : f.toByte.toNat % 16 = 0 := by
  rw [Flags.toByte, BitVec.toNat_append, BitVec.toNat_zero, Nat.or_zero, Nat.shiftLeft_eq]
  exact Nat.mul_mod_left _ 16

/-- Settles O34: `FlagSource.pick` is the choice R112 words, and a choice of the old flag four times rebuilds the old F. -/
theorem flagCompositionAndConditions : Obligations.FlagCompositionAndConditions := by
  refine ⟨fun f => ⟨condHolds_iff .nz f, condHolds_iff .z f, condHolds_iff .nc f, condHolds_iff .c f⟩, ?_⟩
  intro zs ns hs cs s pick f
  refine ⟨?_, toByte_toNat_mod_16 f, rfl⟩
  simp only [combineFlags, FlagSource.pick_eq_ite, f, pick]

/-! The 8-bit operand (R106, R107). -/

@[simp] theorem rd8_reg (r : Reg8) (s : State) : rd8 (.reg r) s = s.reg r := rfl
@[simp] theorem rd8_atHL (s : State) : rd8 .atHL s = memRead8 s s.hl := rfl
@[simp] theorem wr8_reg (r : Reg8) (v : Byte) (s : State) : wr8 (.reg r) v s = .next (s.setReg r v) := rfl
@[simp] theorem wr8_atHL (v : Byte) (s : State) : wr8 .atHL v s = memWrite8 s s.hl v := rfl

/-- A register write reaches the register file alone. -/
theorem setReg_frame (s : State) (r : Reg8) (v : Byte) : s.setReg r v = { s with regs := (s.setReg r v).regs } := by
  cases r <;> rfl

/-- Settles O37: the (HL) form is the CPU's access at HL, which O38 describes. -/
theorem operandAccess : Obligations.OperandAccess := by
  intro s v
  obtain ⟨hunmapped, _, _, _, hmapped⟩ := busAccess s s.hl v
  refine ⟨fun r => ?_, rd8_atHL s, fun h => ?_, fun h => ?_⟩
  · exact ⟨rd8_reg r s, _, wr8_reg r v s, reg_setReg_same s r v, fun q => reg_setReg_other s r q v, setReg_frame s r v,
      setReg_flags s r v⟩
  · obtain ⟨_, hwrite⟩ := hmapped h
    exact hwrite
  · obtain ⟨_, _, hfault⟩ := hunmapped h
    exact hfault

end Sys2Proof.Machine

/-! The ALU's additions, shifts and rotates: the proofs about spec/40_bitops_alu.md. -/

namespace Sys2Proof.Machine

open Sys2Proof.Terms

/-! Bytes, words and carries as numbers. -/

theorem bitNat_eq_toNat (c : Bool) : bitNat c = c.toNat := by cases c <;> rfl
theorem bit_eq_toNat (c : Bool) : bit c = c.toNat := by cases c <;> rfl

theorem toNat_lo8 (w : Word) : (lo8 w).toNat = w.toNat % 256 := by
  rw [lo8, BitVec.extractLsb'_toNat, Nat.shiftRight_zero]

theorem toNat_hi8 (w : Word) : (hi8 w).toNat = w.toNat / 256 := by
  rw [hi8, BitVec.extractLsb'_toNat, Nat.shiftRight_eq_div_pow]
  have := w.isLt
  omega

theorem toNat_merge8 (low high : Byte) : (merge8 low high).toNat = 256 * high.toNat + low.toNat := by
  rw [merge8, BitVec.toNat_append, ← Nat.shiftLeft_add_eq_or_of_lt low.isLt, Nat.shiftLeft_eq, Nat.mul_comm]

/-! An 8-bit value in a result (R140). -/

theorem toNat_byteResult_value (v : Byte) (f : Flags) : (byteResult v f).value.toNat = v.toNat :=
  BitVec.toNat_setWidth_of_le (by decide)

theorem getLsbD_byteResult_value (v : Byte) (f : Flags) {i : Nat} (hi : i < 8) :
    (byteResult v f).value.getLsbD i = v.getLsbD i := by
  simp [byteResult, zext16, show i < 16 by omega]

theorem byteResult_value_eq_zero (v : Byte) (f : Flags) : (byteResult v f).value = 0 ↔ v = 0 := by
  rw [BitVec.toNat_eq, BitVec.toNat_eq, toNat_byteResult_value]
  rfl

/-- Z as the model computes it, of the byte, is the zero test of the 16-bit value field. -/
theorem beq_zero_eq_decide_byteResult_value (v : Byte) (f : Flags) : (v == 0) = decide ((byteResult v f).value = 0) := by
  rw [decide_eq_decide.2 (byteResult_value_eq_zero v f)]
  rfl

/-! `add8` is the carry chain (R141). -/

/-- R141's chain is the ripple carry of the BitVec library, which compares the sum of the low `i` bits with `2 ^ i`. -/
theorem carry_eq_bitVec_carry (x y : Byte) (cin : Bool) (i : Nat) : carry x y cin i = BitVec.carry i x y cin := by
  induction i with
  | zero => rw [carry, BitVec.carry_zero]
  | succ i ih => rw [carry, ih, BitVec.carry_succ, Bool.atLeastTwo]

theorem carry_four (x y : Byte) (cin : Bool) :
    carry x y cin 4 = decide (x.toNat % 16 + y.toNat % 16 + bit cin > 15) := by
  rw [carry_eq_bitVec_carry, BitVec.carry, bit_eq_toNat]
  rfl

theorem carry_eight (x y : Byte) (cin : Bool) : carry x y cin 8 = decide (x.toNat + y.toNat + bit cin > 255) := by
  rw [carry_eq_bitVec_carry, BitVec.carry, Nat.mod_eq_of_lt x.isLt, Nat.mod_eq_of_lt y.isLt, bit_eq_toNat]
  rfl

theorem toNat_add8_value (x y : Byte) (cin : Bool) :
    (add8 x y cin).value.toNat = (x.toNat + y.toNat + bit cin) % 256 := by
  rw [add8, toNat_byteResult_value, BitVec.toNat_ofNat]
  rfl

theorem getLsbD_add8_value (x y : Byte) (cin : Bool) {i : Nat} (hi : i < 8) :
    (add8 x y cin).value.getLsbD i = (x.getLsbD i ^^ y.getLsbD i ^^ carry x y cin i) := by
  have hsum : BitVec.ofNat 8 (x.toNat + y.toNat + bitNat cin) = x + y + (BitVec.ofBool cin).setWidth 8 := by
    rw [BitVec.ofNat_add, BitVec.ofNat_add]
    cases cin <;> simp [bitNat]
  rw [add8, getLsbD_byteResult_value _ _ hi, hsum, BitVec.getLsbD_add_add_bool hi, carry_eq_bitVec_carry, Bool.xor_assoc]

theorem add8_h (x y : Byte) (cin : Bool) :
    (add8 x y cin).flags.h = decide (x.toNat % 16 + y.toNat % 16 + bit cin > 15) := rfl

theorem add8_c (x y : Byte) (cin : Bool) : (add8 x y cin).flags.c = decide (x.toNat + y.toNat + bit cin > 255) := rfl

theorem add8_flags (x y : Byte) (cin : Bool) :
    (add8 x y cin).flags =
      { z := decide ((add8 x y cin).value = 0), n := false, h := carry x y cin 4, c := carry x y cin 8 } := by
  rw [carry_four, carry_eight, add8, ← beq_zero_eq_decide_byteResult_value]
  rfl

/-- Settles O29: the chain is the library's ripple carry, so its bits 4 and 8 are the two comparisons. -/
theorem add8IsCarryChain : Obligations.Add8IsCarryChain := by
  intro x y cin
  exact ⟨fun i hi => getLsbD_add8_value x y cin hi, toNat_add8_value x y cin, add8_flags x y cin, add8_h x y cin,
    add8_c x y cin⟩

/-! The 16-bit additions, byte by byte (R143, R144). -/

/-- The carry from the low bytes to the high ones. -/
theorem bit_low_carry (x y : Word) :
    bit (decide ((lo8 x).toNat + (lo8 y).toNat > 255)) = (x.toNat % 256 + y.toNat % 256) / 256 := by
  rw [bit, toNat_lo8, toNat_lo8]
  simp only [decide_eq_true_eq]
  split <;> omega

/-- The low bytes added, then the high bytes with the carry of the low ones, make the sum of the words. -/
theorem merge8_add_bytes (x y : Word) :
    merge8 (BitVec.ofNat 8 ((lo8 x).toNat + (lo8 y).toNat))
      (BitVec.ofNat 8 ((hi8 x).toNat + (hi8 y).toNat + bit (decide ((lo8 x).toNat + (lo8 y).toNat > 255)))) = x + y := by
  apply BitVec.eq_of_toNat_eq
  rw [bit_low_carry, toNat_merge8, BitVec.toNat_ofNat, BitVec.toNat_ofNat, BitVec.toNat_add]
  simp only [toNat_lo8, toNat_hi8]
  omega

theorem lo8_add8_value (x y : Byte) (cin : Bool) :
    lo8 (add8 x y cin).value = BitVec.ofNat 8 (x.toNat + y.toNat + bit cin) := byteResult_value _ _

theorem add16Low_value (x y : Word) : (add16Low x y).value = x + y := by
  rw [← merge8_add_bytes x y]
  simp only [add16Low, lo8_add8_value]
  rfl

theorem add16High_value (x y : Word) : (add16High x y).value = x + y := by
  rw [← merge8_add_bytes x y]
  simp only [add16High, lo8_add8_value]

theorem add16Low_flags (x y : Word) :
    (add16Low x y).flags =
      { z := decide ((add16Low x y).value = 0), n := false, h := (add8 (lo8 x) (lo8 y) false).flags.h,
        c := (add8 (lo8 x) (lo8 y) false).flags.c } := rfl

theorem add16High_flags (x y : Word) :
    (add16High x y).flags =
      let high := add8 (hi8 x) (hi8 y) (decide ((lo8 x).toNat + (lo8 y).toNat > 255))
      { z := decide ((add16High x y).value = 0), n := false, h := high.flags.h, c := high.flags.c } := rfl

theorem low_half_carry (x y : Word) :
    (add8 (lo8 x) (lo8 y) false).flags.h = decide (x.toNat % 16 + y.toNat % 16 > 15) := by
  rw [add8_h, decide_eq_decide, toNat_lo8, toNat_lo8, bit, if_neg Bool.false_ne_true]
  omega

theorem low_carry (x y : Word) :
    (add8 (lo8 x) (lo8 y) false).flags.c = decide (x.toNat % 256 + y.toNat % 256 > 255) := by
  rw [add8_c, toNat_lo8, toNat_lo8]
  rfl

/-- The carry out of bit 3 of the high byte is the one out of bit 11 of the word. -/
theorem high_half_carry (x y : Word) :
    (add8 (hi8 x) (hi8 y) (decide ((lo8 x).toNat + (lo8 y).toNat > 255))).flags.h =
      decide (x.toNat % 4096 + y.toNat % 4096 > 4095) := by
  rw [add8_h, bit_low_carry, decide_eq_decide, toNat_hi8, toNat_hi8]
  omega

/-- The carry out of bit 7 of the high byte is the one out of bit 15 of the word. -/
theorem high_carry (x y : Word) :
    (add8 (hi8 x) (hi8 y) (decide ((lo8 x).toNat + (lo8 y).toNat > 255))).flags.c =
      decide (x.toNat + y.toNat > 65535) := by
  rw [add8_c, bit_low_carry, decide_eq_decide, toNat_hi8, toNat_hi8]
  omega

theorem add16Low_eq (x y : Word) :
    add16Low x y =
      { value := x + y
        flags :=
          { z := decide (x + y = 0), n := false, h := decide (x.toNat % 16 + y.toNat % 16 > 15),
            c := decide (x.toNat % 256 + y.toNat % 256 > 255) } } := by
  have hflags := add16Low_flags x y
  rw [add16Low_value, low_half_carry, low_carry] at hflags
  rw [← hflags, ← add16Low_value]

theorem add16High_eq (x y : Word) :
    add16High x y =
      { value := x + y
        flags :=
          { z := decide (x + y = 0), n := false, h := decide (x.toNat % 4096 + y.toNat % 4096 > 4095),
            c := decide (x.toNat + y.toNat > 65535) } } := by
  have hflags := add16High_flags x y
  simp only [add16High_value, high_half_carry, high_carry] at hflags
  rw [← hflags, ← add16High_value]

/-- Settles O31: each addition is two byte additions, whose carries are those of the words. -/
theorem add16Flags : Obligations.Add16Flags := by
  intro x y
  exact ⟨add16Low_eq x y, add16High_eq x y, by rw [add16Low_flags], by rw [add16Low_flags]⟩

/-! The shifts and rotates (R145 to R148). -/

theorem getLsbD_bitAt {n i : Nat} (hi : i < 8) (b : Bool) : (bitAt n b).getLsbD i = (b && decide (i = n)) := by
  cases b with
  | false => simp [bitAt]
  | true =>
    rw [bitAt, if_pos rfl, ← BitVec.twoPow_eq, BitVec.getLsbD_twoPow, Bool.true_and]
    by_cases h : i = n
    · simp [← h, hi]
    · simp [h, Ne.symm h]

theorem getLsbD_shiftResult_value (v : Byte) (out : Bool) {i : Nat} (hi : i < 8) :
    (shiftResult v out).value.getLsbD i = v.getLsbD i := getLsbD_byteResult_value v _ hi

/-- A `shiftResult` holds a byte, its zero test and the bit that left. -/
theorem shiftResult_spec (v : Byte) (out : Bool) :
    (shiftResult v out).value.toNat < 256 ∧
      (shiftResult v out).flags = { z := decide ((shiftResult v out).value = 0), n := false, h := false, c := out } := by
  rw [shiftResult, ← beq_zero_eq_decide_byteResult_value, toNat_byteResult_value]
  exact ⟨v.isLt, rfl⟩

/-- A left shift by one whose vacated bit 0 is filled. -/
theorem getLsbD_shiftLeft_or_bitAt (x : Byte) (b : Bool) {i : Nat} (hi : i < 8) :
    (x <<< 1 ||| bitAt 0 b).getLsbD i = if i = 0 then b else x.getLsbD (i - 1) := by
  rw [BitVec.getLsbD_or, BitVec.getLsbD_shiftLeft, getLsbD_bitAt hi]
  by_cases h : i = 0
  · simp [h]
  · simp [h, hi]

/-- A right shift by one whose vacated bit 7 is filled. -/
theorem getLsbD_ushiftRight_or_bitAt (x : Byte) (b : Bool) {i : Nat} (hi : i < 8) :
    (x >>> 1 ||| bitAt 7 b).getLsbD i = if i = 7 then b else x.getLsbD (i + 1) := by
  rw [BitVec.getLsbD_or, BitVec.getLsbD_ushiftRight, getLsbD_bitAt hi, Nat.add_comm 1 i]
  by_cases h : i = 7
  · simp [h]
  · simp [h]

/-! Every function of the family is a shift by one with a bit fed in on the vacated side: 0, the sign, the bit that left, or C. -/

theorem shift_left_feeds_zero (x : Byte) : shift x .left = shiftResult (x <<< 1 ||| bitAt 0 false) (x.getLsbD 7) := by
  simp [shift, bitAt]

theorem shift_right_feeds_zero (x : Byte) : shift x .right = shiftResult (x >>> 1 ||| bitAt 7 false) (x.getLsbD 0) := by
  simp [shift, bitAt]

theorem and_0x80_eq_bitAt (x : Byte) : x &&& 0x80 = bitAt 7 (x.getLsbD 7) := BitVec.and_twoPow x 7

theorem shiftRA_feeds_sign (x : Byte) : shiftRA x = shiftResult (x >>> 1 ||| bitAt 7 (x.getLsbD 7)) (x.getLsbD 0) := by
  rw [shiftRA, and_0x80_eq_bitAt]

theorem shift_left_bit (x : Byte) {i : Nat} (hi : i < 8) :
    (shift x .left).value.getLsbD i = (decide (0 < i) && x.getLsbD (i - 1)) := by
  rw [shift_left_feeds_zero, getLsbD_shiftResult_value _ _ hi, getLsbD_shiftLeft_or_bitAt x false hi]
  by_cases h : i = 0
  · simp [h]
  · simp [h, Nat.pos_of_ne_zero h]

theorem shift_right_bit (x : Byte) {i : Nat} (hi : i < 8) : (shift x .right).value.getLsbD i = x.getLsbD (i + 1) := by
  rw [shift_right_feeds_zero, getLsbD_shiftResult_value _ _ hi, getLsbD_ushiftRight_or_bitAt x false hi]
  by_cases h : i = 7
  · simp [h]
  · simp [h]

theorem shiftRA_bit (x : Byte) {i : Nat} (hi : i < 8) : (shiftRA x).value.getLsbD i = x.getLsbD (min (i + 1) 7) := by
  rw [shiftRA_feeds_sign, getLsbD_shiftResult_value _ _ hi, getLsbD_ushiftRight_or_bitAt x _ hi]
  by_cases h : i = 7
  · simp [h]
  · rw [if_neg h, Nat.min_eq_left (by omega)]

theorem rotate_left_bit (x : Byte) {i : Nat} (hi : i < 8) :
    (rotate x .left).value.getLsbD i = x.getLsbD ((i + 7) % 8) := by
  rw [rotate, getLsbD_shiftResult_value _ _ hi, getLsbD_shiftLeft_or_bitAt x _ hi]
  by_cases h : i = 0
  · simp [h]
  · rw [if_neg h, show (i + 7) % 8 = i - 1 by omega]

theorem rotate_right_bit (x : Byte) {i : Nat} (hi : i < 8) :
    (rotate x .right).value.getLsbD i = x.getLsbD ((i + 1) % 8) := by
  rw [rotate, getLsbD_shiftResult_value _ _ hi, getLsbD_ushiftRight_or_bitAt x _ hi]
  by_cases h : i = 7
  · simp [h]
  · rw [if_neg h, Nat.mod_eq_of_lt (by omega)]

theorem carryRotate_left_bit (x : Byte) (f : Flags) {i : Nat} (hi : i < 8) :
    (carryRotate x .left f).value.getLsbD i = if i = 0 then f.c else x.getLsbD (i - 1) := by
  rw [carryRotate, getLsbD_shiftResult_value _ _ hi, getLsbD_shiftLeft_or_bitAt x f.c hi]

theorem carryRotate_right_bit (x : Byte) (f : Flags) {i : Nat} (hi : i < 8) :
    (carryRotate x .right f).value.getLsbD i = if i = 7 then f.c else x.getLsbD (i + 1) := by
  rw [carryRotate, getLsbD_shiftResult_value _ _ hi, getLsbD_ushiftRight_or_bitAt x f.c hi]

/-! The value of `rotate` is `bit_rotate` by 1 (R147, R134). -/

theorem bitAt_zero_eq_ushiftRight (x : Byte) : bitAt 0 (x.getLsbD 7) = x >>> 7 := by
  apply BitVec.eq_of_getLsbD_eq
  intro i hi
  rw [getLsbD_bitAt hi, BitVec.getLsbD_ushiftRight]
  by_cases h : i = 0
  · simp [h]
  · simp [h, BitVec.getLsbD_of_ge x (7 + i) (by omega)]

theorem bitAt_seven_eq_shiftLeft (x : Byte) : bitAt 7 (x.getLsbD 0) = x <<< 7 := by
  apply BitVec.eq_of_getLsbD_eq
  intro i hi
  rw [getLsbD_bitAt hi, BitVec.getLsbD_shiftLeft]
  by_cases h : i = 7
  · simp [h]
  · simp [h, show i < 7 by omega]

theorem rotate_value_eq_bitRotate (x : Byte) (d : Direction) : lo8 (rotate x d).value = bitRotate x d 1 := by
  have hclamp : clampIndex 1 = 1 := rfl
  cases d with
  | left =>
    rw [rotate, shiftResult, byteResult_value, bitAt_zero_eq_ushiftRight, bitRotate, hclamp]
  | right =>
    rw [rotate, shiftResult, byteResult_value, bitAt_seven_eq_shiftLeft, bitRotate, hclamp]

/-- Settles O32: each function is a shift by one with its own bit fed in, and a `shiftResult` fixes the flags. -/
theorem shiftFunctions : Obligations.ShiftFunctions := by
  intro x f
  refine ⟨fun i hi => ?_, ?_, ?_, rotate_value_eq_bitRotate x⟩
  · exact ⟨shift_left_bit x hi, shift_right_bit x hi, shiftRA_bit x hi, rotate_left_bit x hi, rotate_right_bit x hi,
      carryRotate_left_bit x f hi, carryRotate_right_bit x f hi⟩
  · simp only [List.forall_mem_cons, List.not_mem_nil, false_imp_iff, implies_true, and_true]
    exact ⟨shiftResult_spec _ _, shiftResult_spec _ _, shiftResult_spec _ _⟩
  · simp only [List.forall_mem_cons, List.not_mem_nil, false_imp_iff, implies_true, and_true]
    exact ⟨shiftResult_spec _ _, shiftResult_spec _ _, shiftResult_spec _ _, shiftResult_spec _ _⟩

end Sys2Proof.Machine

/-! Decoding and encoding: the proofs about spec/30_encoding.md. -/

namespace Sys2Proof

/-! The operand bytes a pattern takes (R101). -/

/-! The encoder's two bytes of a word are the machine's (R130), so what puts a word together (R131) is known of them. -/

theorem lowByte_eq_lo8 (w : Word) : lowByte w = Machine.lo8 w := BitVec.setWidth_eq_extractLsb' (by decide)

theorem highByte_eq_hi8 (w : Word) : highByte w = Machine.hi8 w :=
  BitVec.eq_of_getLsbD_eq fun i hi => by simp [highByte, Machine.hi8, hi]

theorem highByte_append_lowByte (w : Word) : highByte w ++ lowByte w = w := by
  rw [highByte_eq_hi8, lowByte_eq_lo8]
  exact Machine.merge8_lo_hi w

theorem lowByte_append (high low : Byte) : lowByte (high ++ low) = low :=
  (lowByte_eq_lo8 _).trans (Machine.lo8_merge8 low high)

theorem highByte_append (high low : Byte) : highByte (high ++ low) = high :=
  (highByte_eq_hi8 _).trans (Machine.hi8_merge8 low high)

/-- A first byte of format F3 takes the two bytes the encoder writes for a word. -/
theorem decode_f3 {op : Byte} {i : Word → Instr} (h : basePattern op = .f3 i) (w : Word) (rest : List Byte) :
    decode (op :: lowByte w :: highByte w :: rest) = .ok (i w, rest) := by
  rw [decode, h, finishPattern, highByte_append_lowByte]

/-! Decode of encode: the first byte of each form picks the form's pattern. -/

/-- Settles O55, form by form: the fields of the opcode byte pick the operands, and an operand word is put together from its bytes. -/
theorem decodeEncode : Obligations.DecodeEncode := by
  intro i rest
  induction i using Instr.by_form with
  | aluOp op o =>
    rcases o with r | _
    · cases op <;> cases r <;> rfl
    · cases op <;> rfl
  | aluImm op n8 => cases op <;> rfl
  | incOp o =>
    rcases o with r | _
    · cases r <;> rfl
    · rfl
  | decOp o =>
    rcases o with r | _
    · cases r <;> rfl
    · rfl
  | ldRegReg dst src => cases dst <;> cases src <;> rfl
  | ldRegMem dst => cases dst <;> rfl
  | ldMemReg src => cases src <;> rfl
  | ldImm o n8 =>
    rcases o with r | _
    · cases r <;> rfl
    · rfl
  | ldPairImm p n16 => cases p <;> exact decode_f3 rfl n16 rest
  | addHL p => cases p <;> rfl
  | incPair p => cases p <;> rfl
  | decPair p => cases p <;> rfl
  | ldAPtr p => cases p <;> rfl
  | ldPtrA p => cases p <;> rfl
  | pushOp p => cases p <;> rfl
  | popOp p => cases p <;> rfl
  | jrCond cc e8 => cases cc <;> rfl
  | jpCond cc a16 => cases cc <;> exact decode_f3 rfl a16 rest
  | callCond cc a16 => cases cc <;> exact decode_f3 rfl a16 rest
  | retCond cc => cases cc <;> rfl
  | rst t => fin_cases t <;> rfl
  | shiftOp op o =>
    rcases o with r | _
    · cases op <;> cases r <;> rfl
    · cases op <;> rfl
  | bitOp b o =>
    rcases o with r | _
    · fin_cases b <;> cases r <;> rfl
    · fin_cases b <;> rfl
  | resOp b o =>
    rcases o with r | _
    · fin_cases b <;> cases r <;> rfl
    · fin_cases b <;> rfl
  | setOp b o =>
    rcases o with r | _
    · fin_cases b <;> cases r <;> rfl
    · fin_cases b <;> rfl
  | ldAtA16SP a16 | jpA16 a16 | callA16 a16 | ldAtA16A a16 | ldAAtA16 a16 => exact decode_f3 rfl a16 rest
  | _ => rfl

/-! Encode of decode: the pattern of a first byte gives only instructions whose encoding begins with it. -/

/-- The byte with the fields `xx`, `yyy` and `zzz` of R102. -/
def opcodeOf (xx : Fin 4) (yyy zzz : Fin 8) : Byte := BitVec.ofNat 8 (64 * xx.val + 8 * yyy.val + zzz.val)

theorem opcodeOf_fields : ∀ op : Byte, opcodeOf (fieldXX op) (fieldYYY op) (fieldZZZ op) = op := by decide

/-- The encoding of a pattern's instruction is its first byte and the operand byte `b` or word `w` of its format (R101). -/
def Pattern.Encodes (op b : Byte) (w : Word) : Pattern → Prop
  | .f1 i => i.encode = [op]
  | .f2 i => (i b).encode = [op, b]
  | .f2Ignored i => (i, op) = (.stop, 0x10)
  | .f3 i => (i w).encode = [op, lowByte w, highByte w]
  | .extended => op = 0xCB
  | .undefined => undefinedOpcodes.contains op = true

section
variable (yyy zzz : Fin 8) (b : Byte) (w : Word)

theorem encodes_quadrant0 : (basePattern (opcodeOf 0 yyy zzz)).Encodes (opcodeOf 0 yyy zzz) b w := by
  fin_cases zzz <;> fin_cases yyy <;> rfl

theorem encodes_quadrant1 : (basePattern (opcodeOf 1 yyy zzz)).Encodes (opcodeOf 1 yyy zzz) b w := by
  fin_cases zzz <;> fin_cases yyy <;> rfl

theorem encodes_quadrant2 : (basePattern (opcodeOf 2 yyy zzz)).Encodes (opcodeOf 2 yyy zzz) b w := by
  fin_cases zzz <;> fin_cases yyy <;> rfl

theorem encodes_quadrant3 : (basePattern (opcodeOf 3 yyy zzz)).Encodes (opcodeOf 3 yyy zzz) b w := by
  fin_cases zzz <;> fin_cases yyy <;> rfl

end

theorem basePattern_encodes (op b : Byte) (w : Word) : (basePattern op).Encodes op b w := by
  rw [← opcodeOf_fields op]
  generalize fieldXX op = xx
  fin_cases xx
  · exact encodes_quadrant0 _ _ b w
  · exact encodes_quadrant1 _ _ b w
  · exact encodes_quadrant2 _ _ b w
  · exact encodes_quadrant3 _ _ b w

theorem encode_extendedInstr : ∀ op2 : Byte, (extendedInstr op2).encode = [0xCB, op2] := by decide

/-- The length of an instruction by its pattern (R101). -/
def Pattern.length : Pattern → Nat
  | .f1 _ | .undefined => 1
  | .f2 _ | .f2Ignored _ | .extended => 2
  | .f3 _ => 3

theorem lengthOf_eq_length : ∀ op : Byte, lengthOf op = (basePattern op).length := by decide

def Pattern.isUndefined : Pattern → Bool
  | .undefined => true
  | _ => false

theorem isUndefined_basePattern :
    ∀ op : Byte, (basePattern op).isUndefined = true ↔ op ∈ undefinedOpcodes := by decide

theorem encode_length (i : Instr) : i.encode.length = i.row.bytes := by cases i <;> rfl

theorem encode_length_le (i : Instr) : i.encode.length ≤ 3 := by cases i <;> exact Nat.le_of_ble_eq_true rfl

theorem wellFormedBytes_cons (op : Byte) (rest : List Byte) :
    wellFormedBytes (op :: rest) = true ↔ op ∉ undefinedOpcodes ∧ rest.length + 1 = (basePattern op).length := by
  simp [wellFormedBytes, lengthOf_eq_length]

/-- Bytes that are exactly one instruction decode to the instruction they encode, or to STOP (R116, R117). -/
theorem exists_decode_of_wellFormed {op : Byte} {rest : List Byte} (h : wellFormedBytes (op :: rest) = true) :
    ∃ i, decode (op :: rest) = .ok (i, []) ∧ (i.encode = op :: rest ∨ (i = .stop ∧ ∃ b, op :: rest = [0x10, b])) := by
  obtain ⟨hdef, hlen⟩ := (wellFormedBytes_cons op rest).1 h
  have henc := basePattern_encodes op
  rw [decode]
  cases hp : basePattern op with
  | f1 i =>
    obtain rfl : rest = [] := by simpa [hp, Pattern.length] using hlen
    exact ⟨i, rfl, .inl (by simpa [hp, Pattern.Encodes] using henc 0 0)⟩
  | f2 i =>
    obtain ⟨b, rfl⟩ : ∃ b, rest = [b] := List.length_eq_one_iff.1 (by simpa [hp, Pattern.length] using hlen)
    exact ⟨i b, rfl, .inl (by simpa [hp, Pattern.Encodes] using henc b 0)⟩
  | f2Ignored i =>
    obtain ⟨b, rfl⟩ : ∃ b, rest = [b] := List.length_eq_one_iff.1 (by simpa [hp, Pattern.length] using hlen)
    obtain ⟨rfl, rfl⟩ : i = .stop ∧ op = 0x10 := by simpa [hp, Pattern.Encodes] using henc 0 0
    exact ⟨_, rfl, .inr ⟨rfl, b, rfl⟩⟩
  | f3 i =>
    obtain ⟨lo, hi, rfl⟩ : ∃ lo hi, rest = [lo, hi] :=
      List.length_eq_two.1 (by simpa [hp, Pattern.length] using hlen)
    exact ⟨i (hi ++ lo), rfl,
      .inl (by simpa [hp, Pattern.Encodes, lowByte_append, highByte_append] using henc 0 (hi ++ lo))⟩
  | extended =>
    obtain ⟨op2, rfl⟩ : ∃ b, rest = [b] := List.length_eq_one_iff.1 (by simpa [hp, Pattern.length] using hlen)
    obtain rfl : op = 0xCB := by simpa [hp, Pattern.Encodes] using henc 0 0
    exact ⟨_, rfl, .inl (encode_extendedInstr op2)⟩
  | undefined => exact absurd ((isUndefined_basePattern op).1 (by rw [hp]; rfl)) hdef

theorem decode_undefined {op : Byte} (h : op ∈ undefinedOpcodes) (rest : List Byte) :
    decode (op :: rest) = .error (.unknown op) := by
  have hp := (isUndefined_basePattern op).2 h
  rw [decode]
  cases hop : basePattern op with
  | undefined => rfl
  | _ => rw [hop] at hp; cases hp

/-- Settles O56: every first byte has a pattern whose instructions encode back to it, or none and is undefined. -/
theorem encodeDecode : Obligations.EncodeDecode := by
  refine ⟨fun bs h => ?_, fun op rest hop => ⟨_, decode_undefined hop rest⟩⟩
  cases bs with
  | nil => cases h
  | cons op rest =>
    obtain ⟨i, hdec, henc⟩ := exists_decode_of_wellFormed h
    refine ⟨i, hdec, henc, ?_⟩
    rcases henc with henc | ⟨rfl, b, hb⟩
    · rw [← henc, encode_length]
    · rw [hb]; rfl

/-- Settles O54: each word's first byte picks its pattern. -/
theorem decodeSampleWords : Obligations.DecodeSampleWords :=
  ⟨rfl, rfl, rfl, rfl, rfl, rfl, rfl, rfl, rfl, rfl⟩

end Sys2Proof

/-! The CPU cycle, the machine cycle and the invariant: the proofs about spec/60_exceptions.md and spec/70_reset_and_hazards.md. -/

namespace Sys2Proof.Machine

open Sys2Proof.Terms

/-! The invariant (R40, R47, R69, R313). -/

/-- Settles O59: the platform's blocks are laid out one after the other and its stretches lie in them. -/
theorem resetInvariant : Obligations.ResetInvariant :=
  ⟨rfl, rfl, by decide, by decide, by decide, by decide⟩

/-- The phases of a machine cycle that ends in a next state (R7). -/
theorem step_eq_next {s t : State} (h : step s = .next t) :
    ∃ u v w x, timerCycle s = .next u ∧ cpuCycle u = .next v ∧ envPhase v = .next w ∧
      timerWriteHook w.lastWrite w = .next x ∧ bootHook x.lastWrite x = .next t := by
  obtain ⟨u, hu, h⟩ := onNext_eq_next h
  obtain ⟨v, hv, h⟩ := onNext_eq_next h
  obtain ⟨w, hw, h⟩ := onNext_eq_next h
  obtain ⟨x, hx, h⟩ := onNext_eq_next h
  exact ⟨u, v, w, x, hu, hv, hw, hx, h⟩

/-- Settles O60: every phase of the machine cycle keeps the invariant. -/
theorem stepKeepsInvariant : Obligations.StepKeepsInvariant := by
  intro s t hs h
  obtain ⟨u, v, w, x, hu, hv, hw, hx, ht⟩ := step_eq_next h
  have hu' := (timerCycle_effect hu).inv hs
  have hv' := cpuCycle_inv hv hu'
  have hw' := envPhase_inv hw hv'
  have hx' := (timerWriteHook_effect hx).inv hw'
  exact bootHook_inv ht hx'

/-! The pending line (R312). -/

/-- A bit of the pending set is that of IE and IF, below bit 5. -/
theorem getLsbD_pendingSet (iflag ie : Byte) (j : Nat) :
    (pendingSet iflag ie).getLsbD j = (decide (j < 5) && (iflag.getLsbD j && ie.getLsbD j)) := by
  have hmask : (0x1F : Byte) = BitVec.setWidth 8 (BitVec.allOnes 5) := rfl
  rw [pendingSet, BitVec.getLsbD_and, BitVec.getLsbD_and, hmask, BitVec.getLsbD_setWidth, BitVec.getLsbD_allOnes]
  by_cases hj : j < 5
  · simp [hj, show j < 8 by omega, Bool.and_comm]
  · simp [hj]

/-- The search from bit 0 up finds the line whose bit is set with no bit below it set. -/
theorem ifIeCompare_eq_some (iflag ie : Byte) (i : Line) :
    ifIeCompare iflag ie = some i ↔
      (iflag.getLsbD (Line.bit i) && ie.getLsbD (Line.bit i)) = true ∧
        ∀ j, j < Line.bit i → (iflag.getLsbD j && ie.getLsbD j) = false := by
  have none_below (P : Nat → Prop) : (∀ j, j < 0 → P j) ↔ True := by simp
  have all_below (n : Nat) (P : Nat → Prop) : (∀ j, j < n + 1 → P j) ↔ (∀ j, j < n → P j) ∧ P n := Nat.forall_lt_succ_right
  simp only [ifIeCompare, getLsbD_pendingSet]
  cases i <;> simp only [Line.bit, all_below, none_below] <;> split_ifs <;> simp_all

theorem ifIeCompare_eq_none (iflag ie : Byte) : ifIeCompare iflag ie = none ↔ pendingSet iflag ie = 0 := by
  constructor
  · intro h
    simp only [ifIeCompare] at h
    split_ifs at h with h0 h1 h2 h3 h4
    refine BitVec.eq_of_getLsbD_eq fun j hj => ?_
    by_cases hj5 : j < 5
    · interval_cases j <;> simp_all
    · simp [getLsbD_pendingSet, hj5]
  · intro h
    simp [ifIeCompare, h]

/-- Settles O43. -/
theorem pendingLineIsLowest : Obligations.PendingLineIsLowest := by
  intro iflag ie
  refine ⟨?_, fun i => ?_⟩
  · rw [ifIeCompare_eq_none, pendingSet, BitVec.and_comm ie]
  · rw [ifIeCompare_eq_some, Bool.and_eq_true, and_assoc]

theorem pending_eq_none (s : State) : s.pending = none ↔ s.iflag &&& s.ie &&& 0x1F = 0 := by
  rw [State.pending, ifIeCompare_eq_none, pendingSet, BitVec.and_comm s.ie]

/-! The cases of a CPU cycle (R311). -/

/-- The state in which an instruction is dispatched or an interrupt taken: `last_write` cleared (D10), HALT left (R313). -/
def State.awake (s : State) : State := { s with lastWrite := 0, halt := false }

theorem cpuCycle_idle {s : State} {n : Nat} (h : s.idle = n + 1) : cpuCycle s = .next { s with lastWrite := 0, idle := n } := by
  simp [cpuCycle, h]

theorem cpuCycle_halted {s : State} (h0 : s.idle = 0) (hh : s.halt = true) (hp : s.pending = none) :
    cpuCycle s = .next { s with lastWrite := 0 } := by
  simp only [cpuCycle]
  rw [if_neg (by omega), if_pos hh]
  split
  · rfl
  · next i hi => exact absurd (hi.symm.trans hp) (Option.some_ne_none i)

theorem cpuCycle_awake {s : State} (h0 : s.idle = 0) (hh : s.halt = true → s.pending ≠ none) :
    cpuCycle s = interruptOrDispatch s.awake := by
  simp only [cpuCycle]
  rw [if_neg (by omega)]
  cases hs : s.halt with
  | false => simp [State.awake, ← hs]
  | true =>
    rw [if_pos rfl]
    split
    · next hp => exact absurd hp (hh hs)
    · rfl

theorem cpuCycle_interrupt {s : State} {i : Line} (h0 : s.idle = 0) (hime : s.ime = true) (hp : s.pending = some i) :
    cpuCycle s = takeInterrupt i s.awake := by
  have hp' : s.awake.pending = some i := hp
  have hime' : s.awake.ime = true := hime
  rw [cpuCycle_awake h0 fun _ => by rw [hp]; exact Option.some_ne_none i]
  simp [interruptOrDispatch, hp', hime']

theorem cpuCycle_dispatches {s : State} (h : s.dispatches) : cpuCycle s = dispatch s.awake := by
  obtain ⟨h0, hh, hi⟩ := h
  rw [cpuCycle_awake h0 hh, interruptOrDispatch]
  cases hp : s.awake.pending with
  | none => rfl
  | some i =>
    have hime : s.awake.ime = false := Bool.eq_false_iff.2 fun h => by
      have : s.pending = some i := hp
      rw [hi h] at this; cases this
    simp [hime]

/-- Every CPU cycle is one of these four (R311): idle, halted, an interrupt, a dispatch. -/
theorem cpuCycle_cases (s : State) :
    (∃ n, s.idle = n + 1) ∨ (s.idle = 0 ∧ s.halt = true ∧ s.pending = none) ∨
      (s.idle = 0 ∧ s.ime = true ∧ ∃ i, s.pending = some i) ∨ s.dispatches := by
  cases hidle : s.idle with
  | succ n => exact .inl ⟨n, rfl⟩
  | zero =>
    cases hp : s.pending with
    | none =>
      cases hh : s.halt with
      | true => exact .inr (.inl ⟨rfl, rfl, rfl⟩)
      | false => exact .inr (.inr (.inr ⟨hidle, by simp [hh], fun _ => hp⟩))
    | some i =>
      cases hi : s.ime with
      | true => exact .inr (.inr (.inl ⟨rfl, rfl, i, rfl⟩))
      | false => exact .inr (.inr (.inr ⟨hidle, by simp [hp], by simp [hi]⟩))

/-- Settles O45. -/
theorem idleAndHaltedCycles : Obligations.IdleAndHaltedCycles := by
  intro s
  refine ⟨fun n h => cpuCycle_idle h, fun h0 hh hp => ?_, fun h0 hh hp => ?_⟩
  · exact cpuCycle_halted h0 hh ((pending_eq_none s).2 hp)
  · rw [cpuCycle_awake h0 fun _ => mt (pending_eq_none s).1 hp]
    exact (cpuCycle_awake (s := { s with halt := false }) h0 (by simp)).symm

/-! Dispatch (R316, R341). -/

theorem dispatch_of_decode {s : State} {i : Instr} {rest : List Byte} (h : decode (fetchBytes s) = .ok (i, rest)) :
    dispatch s = exec i (s.setScratch .empty) := by
  rw [dispatch, h]

/-- A decoded instruction at `pc` is dispatched as itself. -/
theorem cpuCycle_of_decode {s : State} {i : Instr} {rest : List Byte} (hd : s.dispatches)
    (h : decode (fetchBytes s) = .ok (i, rest)) :
    cpuCycle s = exec i { s with lastWrite := 0, halt := false, scratch := .empty } := by
  rw [cpuCycle_dispatches hd]
  exact dispatch_of_decode (s := s.awake) h

/-- Settles O46: the phases of the machine cycle in order, the CPU's being the dispatch. -/
theorem stepRunsDecodedInstruction : Obligations.StepRunsDecodedInstruction := by
  intro s t i rest ht hd hdec
  rw [step, machineCycle, ht, onNext_next, cpuCycle_of_decode hd hdec]
  rfl

/-- The three bytes fetched begin with the encoding that stands at `pc`. -/
theorem encode_prefix_fetchBytes {s : State} {i : Instr} (h : BytesAtPc s i.encode) : i.encode <+: fetchBytes s := by
  have hlen := encode_length_le i
  refine List.prefix_iff_getElem.2 ⟨hlen, fun k hk => ?_⟩
  rw [← h k hk]
  have hk3 : k < 3 := by omega
  interval_cases k
  · simp [fetchBytes]
  · rfl
  · rfl

/-- Settles O47: what the encoder writes for an instruction the decoder reads as it, whatever follows. -/
theorem encodedBytesAreDispatched : Obligations.EncodedBytesAreDispatched := by
  intro s i hd hbytes
  obtain ⟨rest, hrest⟩ := encode_prefix_fetchBytes hbytes
  exact cpuCycle_of_decode hd (hrest ▸ decodeEncode i rest)

/-! Faults (R341 to R343). -/

/-- `r` is a next state or one of the faults of `P`, never a refusal. -/
def Answers (P : Fault → Prop) : Result → Prop
  | .next _ => True
  | .fault f => P f
  | .refused _ => False

/-- The fault of a store (R342). -/
def StoreFault (f : Fault) : Prop := ∃ a, f = .unmappedWrite a

/-- Any fault but an address error (R343). -/
def NoAddressError (f : Fault) : Prop := ∀ r, f ≠ .addressError r

section
variable {P Q : Fault → Prop}

theorem Answers.mono {r : Result} (hr : Answers P r) (h : ∀ f, P f → Q f) : Answers Q r := by
  cases r with
  | next s => trivial
  | fault f => exact h f hr
  | refused e => exact hr

theorem Answers.onNext {r : Result} {f : State → Result} (hr : Answers P r) (hf : ∀ s, Answers P (f s)) :
    Answers P (onNext r f) := by
  cases r with
  | next s => exact hf s
  | fault e => exact hr
  | refused e => exact hr

theorem Answers.mapNext {r : Result} (hr : Answers P r) (f : State → State) : Answers P (mapNext r f) :=
  hr.onNext fun _ => trivial

theorem Answers.ne_refused {r : Result} (hr : Answers P r) (e : Refusal) : r ≠ .refused e := by
  rintro rfl
  exact hr

end

theorem StoreFault.noAddressError {f : Fault} (h : StoreFault f) : NoAddressError f := by
  obtain ⟨a, rfl⟩ := h
  exact fun _ h => by cases h

/-! The CPU's accesses and the timer fault only at a store. -/

theorem busWrite_answers (s : State) (a : Word) (v : Byte) : Answers StoreFault (busWrite s a v) := by
  unfold busWrite
  split
  · exact ⟨a, rfl⟩
  · trivial

theorem memWrite16_answers (s : State) (a v : Word) : Answers StoreFault (memWrite16 s a v) :=
  (busWrite_answers s a _).onNext fun _ => (busWrite_answers _ _ _).mapNext _

theorem takeInterrupt_answers (i : Line) (s : State) : Answers StoreFault (takeInterrupt i s) :=
  (memWrite16_answers _ _ _).mapNext _

theorem exec_answers (i : Instr) (s : State) : Answers StoreFault (exec i s) := by
  have h := exec_outcome i s
  cases hr : exec i s with
  | next t => trivial
  | fault f =>
    rw [hr] at h
    obtain ⟨a, hf, _⟩ := h
    exact ⟨a, hf⟩
  | refused e => rw [hr] at h; exact h

theorem timaIncrement_answers (s : State) : Answers StoreFault (timaIncrement s) := by
  simp only [timaIncrement]
  split
  · exact (busWrite_answers _ _ _).mapNext _
  · exact busWrite_answers _ _ _

theorem countEdge_answers (before after : Bool) (s : State) : Answers StoreFault (countEdge before after s) := by
  refine Answers.mapNext ?_ _
  split
  · exact timaIncrement_answers s
  · trivial

theorem timerCycle_answers (s : State) : Answers StoreFault (timerCycle s) :=
  (busWrite_answers _ _ _).onNext fun _ => countEdge_answers _ _ _

theorem timerWriteHook_answers (a : Word) (s : State) : Answers StoreFault (timerWriteHook a s) := by
  unfold timerWriteHook
  split_ifs
  · exact countEdge_answers _ _ _
  · exact countEdge_answers _ _ _
  · trivial

/-! The CPU and the environment. -/

theorem dispatch_answers (s : State) : Answers NoAddressError (dispatch s) := by
  unfold dispatch
  split
  · exact (exec_answers _ _).mono fun _ => StoreFault.noAddressError
  · exact fun _ h => by cases h

theorem cpuCycle_answers (s : State) : Answers NoAddressError (cpuCycle s) := by
  rcases cpuCycle_cases s with ⟨n, hn⟩ | ⟨h0, hh, hp⟩ | ⟨h0, hi, i, hp⟩ | hd
  · rw [cpuCycle_idle hn]; trivial
  · rw [cpuCycle_halted h0 hh hp]; trivial
  · rw [cpuCycle_interrupt h0 hi hp]; exact (takeInterrupt_answers i _).mono fun _ => StoreFault.noAddressError
  · rw [cpuCycle_dispatches hd]; exact dispatch_answers _

theorem withComponent_ne_refused {s : State} {n : Nat} {f : Component → Result} {e : Refusal}
    (hf : ∀ c, f c ≠ .refused e) : withComponent s n f ≠ .refused e := by
  unfold withComponent
  split
  · exact fun h => by cases h
  · exact hf _

theorem busForcedPlug_ne_refused (n : Nat) (first last : Word) (offset : Nat) (s : State) (e : Refusal) :
    busForcedPlug n first last offset s ≠ .refused e :=
  withComponent_ne_refused fun c => by
    split
    · exact fun h => by cases h
    · split_ifs <;> exact fun h => by cases h

/-- A move of the environment has a meaning in every state. -/
theorem applyMove_ne_refused (m : EnvMove) (s : State) (e : Refusal) : applyMove m s ≠ .refused e := by
  cases m with
  | request line | create size | attachCpu => exact fun h => by cases h
  | write a v => exact (busWrite_answers s a v).ne_refused e
  | share dst src =>
    refine withComponent_ne_refused fun d => withComponent_ne_refused fun c => ?_
    split <;> exact fun h => by cases h
  | plug c first last =>
    simp only [applyMove, busPlug]
    split
    · exact fun h => by cases h
    · exact busForcedPlug_ne_refused _ _ _ _ _ _
  | forcedPlug c first last offset => exact busForcedPlug_ne_refused _ _ _ _ _ _
  | unplug c =>
    refine withComponent_ne_refused fun d => ?_
    split <;> exact fun h => by cases h
  | load c image =>
    refine withComponent_ne_refused fun d => ?_
    split <;> exact fun h => by cases h

theorem recover_answers {r : Result} (hr : ∀ e, r ≠ .refused e) (s : State) : Answers NoAddressError (recover r s) := by
  unfold recover
  split
  · trivial
  · trivial
  · next f hf => exact hf
  · next e => exact hr e rfl

theorem applyMoves_answers (ms : List EnvMove) (s : State) : Answers NoAddressError (applyMoves ms s) := by
  induction ms generalizing s with
  | nil => trivial
  | cons m ms ih => exact (recover_answers (applyMove_ne_refused m s) s).onNext ih

theorem envPhase_answers (s : State) : Answers NoAddressError (envPhase s) := by
  unfold envPhase
  split
  · trivial
  · exact applyMoves_answers _ _

theorem bootHook_answers (a : Word) (s : State) : Answers NoAddressError (bootHook a s) := by
  unfold bootHook
  split
  · trivial
  · split
    · exact applyMoves_answers _ _
    · trivial

theorem step_answers (s : State) : Answers NoAddressError (step s) :=
  ((timerCycle_answers s).mono fun _ => StoreFault.noAddressError).onNext fun _ => (cpuCycle_answers _).onNext fun _ =>
    (envPhase_answers _).onNext fun _ =>
      ((timerWriteHook_answers _ _).mono fun _ => StoreFault.noAddressError).onNext fun _ => bootHook_answers _ _

/-- R72: a move that fails with an address error is skipped. -/
theorem applyMoves_of_addressError {m : EnvMove} {s : State} {r : AddressReason}
    (h : applyMove m s = .fault (.addressError r)) (ms : List EnvMove) : applyMoves (m :: ms) s = applyMoves ms s := by
  rw [applyMoves, h]
  rfl

/-- R363: a move that fails ends the assembly. -/
theorem assemble_of_fault {m : EnvMove} {s t : State} {f : Fault} (done ms : List EnvMove) (hdone : assemble done s = .next t)
    (h : applyMove m t = .fault f) : assemble (done ++ m :: ms) s = .fault f := by
  induction done generalizing s with
  | nil =>
    cases hdone
    rw [List.nil_append, assemble, h]
    rfl
  | cons d done ih =>
    obtain ⟨u, hu, hdone⟩ := onNext_eq_next hdone
    rw [List.cons_append, assemble, hu]
    exact ih hdone

/-- Settles O49: the moves are the one part of a cycle that could fail so, and they are recovered. -/
theorem addressErrorsAreRecovered : Obligations.AddressErrorsAreRecovered := by
  refine ⟨fun s m ms r h => applyMoves_of_addressError h ms, fun s t done ms m f => assemble_of_fault done ms,
    fun s r h => ?_, fun s r h => ?_⟩
  · have hs : Answers NoAddressError (.fault (.addressError r)) := h ▸ step_answers s
    exact hs r rfl
  · exact (step_answers s).ne_refused r h

/-! The unknown instruction (R341). -/

/-- Three bytes are enough for any instruction, so only an undefined first byte is rejected. -/
theorem decode_fetchBytes_error {s : State} {e : DecodeError} (h : decode (fetchBytes s) = .error e) :
    busRead s s.pc ∈ undefinedOpcodes := by
  rw [fetchBytes, decode] at h
  cases hp : basePattern (busRead s s.pc) with
  | undefined => exact (isUndefined_basePattern _).1 (by rw [hp]; rfl)
  | _ => rw [hp] at h; cases h

theorem dispatch_unknown {s : State} (h : busRead s s.pc ∈ undefinedOpcodes) :
    dispatch s = .fault (.unknownInstruction (busRead s s.pc) s.pc) := by
  rw [dispatch, fetchBytes, decode_undefined h]

theorem ne_unknown_of_answers {r : Result} (h : Answers StoreFault r) (op : Byte) (p : Word) :
    r ≠ .fault (.unknownInstruction op p) := by
  rintro rfl
  obtain ⟨a, ha⟩ := h
  cases ha

/-- A dispatch faults so exactly when an undefined byte stands at `pc`. -/
theorem dispatch_eq_unknown (s : State) (op : Byte) (p : Word) :
    dispatch s = .fault (.unknownInstruction op p) ↔ p = s.pc ∧ op = busRead s s.pc ∧ op ∈ undefinedOpcodes := by
  constructor
  · intro h
    unfold dispatch at h
    split at h
    · exact absurd h (ne_unknown_of_answers (exec_answers _ _) op p)
    · next e he =>
      cases h
      exact ⟨rfl, rfl, decode_fetchBytes_error he⟩
  · rintro ⟨rfl, rfl, hop⟩
    exact dispatch_unknown hop

/-- Settles O48: an idle or halted cycle completes and an interrupt faults only at its push. -/
theorem unknownInstructionFault : Obligations.UnknownInstructionFault := by
  intro s op p
  constructor
  · intro h
    rcases cpuCycle_cases s with ⟨n, hn⟩ | ⟨h0, hh, hp⟩ | ⟨h0, hi, i, hp⟩ | hd
    · rw [cpuCycle_idle hn] at h; cases h
    · rw [cpuCycle_halted h0 hh hp] at h; cases h
    · rw [cpuCycle_interrupt h0 hi hp] at h
      exact absurd h (ne_unknown_of_answers (takeInterrupt_answers i _) op p)
    · rw [cpuCycle_dispatches hd] at h
      exact ⟨hd, (dispatch_eq_unknown s.awake op p).1 h⟩
  · rintro ⟨hd, h⟩
    rw [cpuCycle_dispatches hd]
    exact (dispatch_eq_unknown s.awake op p).2 h

end Sys2Proof.Machine

/-! The registers, the ALU's subtraction and the bit functions: the rest of the proofs about spec/10_state.md and
spec/40_bitops_alu.md. -/

namespace Sys2Proof.Machine

open Sys2Proof.Terms

/-! Pairs (R21, R22). -/

theorem setPair_pair_same (s : State) (p : Reg16) (v : Word) : (s.setPair p v).pair p = v := by
  cases p with
  | bc => exact bc_setBC s v
  | de => exact de_setDE s v
  | hl => exact hl_setHL s v
  | sp => rfl

theorem setPair_pair_other {p q : Reg16} (h : q ≠ p) (s : State) (v : Word) : (s.setPair p v).pair q = s.pair q := by
  cases p <;> cases q <;> first | rfl | exact absurd rfl h

theorem setStackPair_stackPair_same (s : State) (p : StackPair) (v : Word) :
    (s.setStackPair p v).stackPair p = if p = .af then v &&& 0xFFF0 else v := by
  cases p with
  | bc => exact bc_setBC s v
  | de => exact de_setDE s v
  | hl => exact hl_setHL s v
  | af => exact af_setAF s v

theorem setStackPair_stackPair_other {p q : StackPair} (h : q ≠ p) (s : State) (v : Word) :
    (s.setStackPair p v).stackPair q = s.stackPair q := by
  cases p <;> cases q <;> first | rfl | exact absurd rfl h

/-- Settles O36: a pair is the merge of its two registers, and two pairs share none. -/
theorem pairsShareRegisters : Obligations.PairsShareRegisters := by
  intro s v
  refine ⟨⟨toNat_merge8 _ _, toNat_merge8 _ _, toNat_merge8 _ _, toNat_merge8 _ _⟩, fun p => ?_, fun p => ?_⟩
  · exact ⟨setPair_pair_same s p v, fun q hq => setPair_pair_other hq s v⟩
  · exact ⟨setStackPair_stackPair_same s p v, fun q hq => setStackPair_stackPair_other hq s v⟩

/-! `sub8` is the borrow chain (R142). -/

/-- Subtraction is addition of the complement: R142's chain is the complement of the library's ripple carry. -/
theorem borrow_eq_not_carry (x y : Byte) (bin : Bool) {i : Nat} (hi : i ≤ 8) :
    borrow x y bin i = !BitVec.carry i x (~~~y) (!bin) := by
  induction i with
  | zero => rw [borrow, BitVec.carry_zero, Bool.not_not]
  | succ i ih =>
    rw [borrow, ih (by omega), BitVec.carry_succ, BitVec.getLsbD_not, decide_eq_true (by omega : i < 8)]
    cases x.getLsbD i <;> cases y.getLsbD i <;> simp

theorem toNat_not_byte (y : Byte) : (~~~y).toNat = 255 - y.toNat := by rw [BitVec.toNat_not]

theorem borrow_four (x y : Byte) (bin : Bool) :
    borrow x y bin 4 = decide (x.toNat % 16 < y.toNat % 16 + bit bin) := by
  have := y.isLt
  rw [borrow_eq_not_carry x y bin (by decide), BitVec.carry, toNat_not_byte, bit_eq_toNat, ← decide_not, decide_eq_decide]
  cases bin <;> simp only [Bool.not_false, Bool.not_true, Bool.toNat_false, Bool.toNat_true] <;> omega

theorem borrow_eight (x y : Byte) (bin : Bool) : borrow x y bin 8 = decide (x.toNat < y.toNat + bit bin) := by
  have := x.isLt
  have := y.isLt
  rw [borrow_eq_not_carry x y bin (by decide), BitVec.carry, toNat_not_byte, bit_eq_toNat, ← decide_not, decide_eq_decide]
  cases bin <;> simp only [Bool.not_false, Bool.not_true, Bool.toNat_false, Bool.toNat_true] <;> omega

/-- The difference in the model's integers is the one modulo 256. -/
theorem ofInt_sub_eq (x y : Byte) (bin : Bool) :
    BitVec.ofInt 8 (x.toNat - y.toNat - bitNat bin) = BitVec.ofNat 8 (x.toNat + 256 - (y.toNat + bit bin)) := by
  have hb : bitNat bin = bit bin := rfl
  have : bit bin ≤ 1 := by cases bin <;> decide
  have := y.isLt
  apply BitVec.eq_of_toNat_eq
  rw [BitVec.toNat_ofInt, BitVec.toNat_ofNat, hb]
  omega

theorem ofNat_sub_eq_add_not (x y : Byte) (bin : Bool) :
    BitVec.ofNat 8 (x.toNat + 256 - (y.toNat + bit bin)) = x + ~~~y + (BitVec.ofBool (!bin)).setWidth 8 := by
  have := y.isLt
  apply BitVec.eq_of_toNat_eq
  rw [BitVec.toNat_add, BitVec.toNat_add, toNat_not_byte, BitVec.toNat_ofNat]
  cases bin <;> simp [bit] <;> omega

theorem lo8_sub8_value (x y : Byte) (bin : Bool) :
    lo8 (sub8 x y bin).value = BitVec.ofNat 8 (x.toNat + 256 - (y.toNat + bit bin)) := by
  rw [← ofInt_sub_eq]
  exact byteResult_value _ _

theorem toNat_sub8_value (x y : Byte) (bin : Bool) :
    (sub8 x y bin).value.toNat = (x.toNat + 256 - (y.toNat + bit bin)) % 256 := by
  rw [sub8, toNat_byteResult_value, ofInt_sub_eq, BitVec.toNat_ofNat]

theorem getLsbD_sub8_value (x y : Byte) (bin : Bool) {i : Nat} (hi : i < 8) :
    (sub8 x y bin).value.getLsbD i = (x.getLsbD i ^^ y.getLsbD i ^^ borrow x y bin i) := by
  rw [sub8, getLsbD_byteResult_value _ _ hi, ofInt_sub_eq, ofNat_sub_eq_add_not, BitVec.getLsbD_add_add_bool hi,
    borrow_eq_not_carry x y bin (by omega), BitVec.getLsbD_not, decide_eq_true hi]
  simp

theorem sub8_h (x y : Byte) (bin : Bool) :
    (sub8 x y bin).flags.h = decide (x.toNat % 16 < y.toNat % 16 + bit bin) := rfl

theorem sub8_c (x y : Byte) (bin : Bool) : (sub8 x y bin).flags.c = decide (x.toNat < y.toNat + bit bin) := rfl

theorem sub8_flags (x y : Byte) (bin : Bool) :
    (sub8 x y bin).flags =
      { z := decide ((sub8 x y bin).value = 0), n := true, h := borrow x y bin 4, c := borrow x y bin 8 } := by
  rw [borrow_four, borrow_eight, sub8, ← beq_zero_eq_decide_byteResult_value]
  rfl

/-- Settles O30: the chain is the complement of the carry chain of `x + ~y + !bin`. -/
theorem sub8IsBorrowChain : Obligations.Sub8IsBorrowChain := by
  intro x y bin
  exact ⟨fun i hi => getLsbD_sub8_value x y bin hi, toNat_sub8_value x y bin, sub8_flags x y bin, sub8_h x y bin,
    sub8_c x y bin⟩

/-! The bit functions (R130 to R134). -/

theorem toNat_lsb4 (v : Byte) : (lsb4 v).toNat = v.toNat % 16 := by
  rw [lsb4, BitVec.extractLsb'_toNat, Nat.shiftRight_zero]

theorem toNat_msb4 (v : Byte) : (msb4 v).toNat = v.toNat / 16 := by
  rw [msb4, BitVec.extractLsb'_toNat, Nat.shiftRight_eq_div_pow]
  have := v.isLt
  omega

theorem toNat_merge4 (low high : Byte) : (merge4 low high).toNat = 16 * (high.toNat % 16) + low.toNat % 16 := by
  rw [merge4, BitVec.toNat_append, ← Nat.shiftLeft_add_eq_or_of_lt (lsb4 low).isLt, Nat.shiftLeft_eq, toNat_lsb4,
    toNat_lsb4, Nat.mul_comm]

theorem merge4_nibbles (v : Byte) : merge4 (v &&& 0x0F) (v >>> 4) = v := by
  apply BitVec.eq_of_toNat_eq
  have hlow : (v &&& 0x0F).toNat = v.toNat % 16 := (BitVec.toNat_and v _).trans (Nat.and_two_pow_sub_one_eq_mod v.toNat 4)
  have := v.isLt
  rw [toNat_merge4, hlow, BitVec.toNat_ushiftRight, Nat.shiftRight_eq_div_pow]
  omega

/-- The index saturated to 0 to 7 (D26). -/
theorem clampIndex_eq (n : Int) : clampIndex n = if n < 0 then 0 else if n > 7 then 7 else n.toNat := by
  rw [clampIndex]
  split_ifs <;> omega

theorem clampIndex_lt (n : Int) : clampIndex n < 8 := by
  rw [clampIndex]
  omega

theorem getLsbD_bitSet (v : Byte) (n : Int) {j : Nat} (hj : j < 8) :
    (bitSet v n).getLsbD j = (decide (j = clampIndex n) || v.getLsbD j) := by
  have := clampIndex_lt n
  rw [bitSet, BitVec.getLsbD_or, ← BitVec.twoPow_eq, BitVec.getLsbD_twoPow, Bool.or_comm]
  by_cases h : clampIndex n = j
  · simp [h, hj]
  · simp [h, Ne.symm h]

theorem getLsbD_bitUnset (v : Byte) (n : Int) {j : Nat} (hj : j < 8) :
    (bitUnset v n).getLsbD j = (!decide (j = clampIndex n) && v.getLsbD j) := by
  have := clampIndex_lt n
  rw [bitUnset, BitVec.getLsbD_and, BitVec.getLsbD_not, ← BitVec.twoPow_eq, BitVec.getLsbD_twoPow, Bool.and_comm]
  by_cases h : clampIndex n = j
  · simp [h]
  · simp [h, Ne.symm h, hj]

theorem bitRotate_left (v : Byte) (n : Int) : bitRotate v .left n = v.rotateLeft (clampIndex n) := by
  rw [bitRotate, BitVec.rotateLeft_def, Nat.mod_eq_of_lt (clampIndex_lt n)]

theorem bitRotate_right (v : Byte) (n : Int) : bitRotate v .right n = v.rotateRight (clampIndex n) := by
  rw [bitRotate, BitVec.rotateRight_def, Nat.mod_eq_of_lt (clampIndex_lt n)]

/-- Settles O33: the splits and merges as numbers, the rest bit by bit at the saturated index. -/
theorem bitFunctions : Obligations.BitFunctions := by
  refine ⟨fun v => ⟨toNat_lsb4 v, toNat_msb4 v, merge4_nibbles v⟩, fun w => ⟨toNat_lo8 w, toNat_hi8 w, merge8_lo_hi w⟩,
    toNat_merge4, toNat_merge8, fun v w n j => ?_⟩
  rw [← clampIndex_eq n]
  exact ⟨rfl, getLsbD_bitSet v n, getLsbD_bitUnset v n, rfl, bitRotate_left v n, bitRotate_right v n⟩

end Sys2Proof.Machine

/-! The ALU instructions on registers, and the 16-bit ones: the proofs about spec/41_alu8_instructions.md and
spec/42_alu16_instructions.md. -/

namespace Sys2Proof.Machine

open Sys2Proof.Terms

/-! The ALU's byte results as whole records. -/

theorem byteResult_eq_ofNat (v : Byte) (f : Flags) : byteResult v f = { value := BitVec.ofNat 16 v.toNat, flags := f } := by
  rw [byteResult, zext16, BitVec.ofNat_toNat]

theorem beq_zero_eq_decide (v : Byte) : (v == 0) = decide (v.toNat = 0) :=
  decide_eq_decide.2 (BitVec.toNat_eq (y := 0#8))

/-- R141 as a record: the value, its zero test, and the two carries. -/
theorem add8_eq (x y : Byte) (cin : Bool) :
    add8 x y cin =
      { value := BitVec.ofNat 16 ((x.toNat + y.toNat + bit cin) % 256)
        flags :=
          { z := decide ((x.toNat + y.toNat + bit cin) % 256 = 0), n := false,
            h := decide (x.toNat % 16 + y.toNat % 16 + bit cin > 15), c := decide (x.toNat + y.toNat + bit cin > 255) } } := by
  rw [add8, byteResult_eq_ofNat, beq_zero_eq_decide, BitVec.toNat_ofNat]
  rfl

/-- R142 as a record: the value, its zero test, and the two borrows. -/
theorem sub8_eq (x y : Byte) (bin : Bool) :
    sub8 x y bin =
      { value := BitVec.ofNat 16 ((x.toNat + 256 - (y.toNat + bit bin)) % 256)
        flags :=
          { z := decide ((x.toNat + 256 - (y.toNat + bit bin)) % 256 = 0), n := true,
            h := decide (x.toNat % 16 < y.toNat % 16 + bit bin), c := decide (x.toNat < y.toNat + bit bin) } } := by
  rw [sub8, ofInt_sub_eq, byteResult_eq_ofNat, beq_zero_eq_decide, BitVec.toNat_ofNat]
  rfl

/-- The value SUB writes back, reduced modulo 256 as the statement has it. -/
theorem lo8_sub8_value_mod (x y : Byte) (bin : Bool) :
    lo8 (sub8 x y bin).value = BitVec.ofNat 8 ((x.toNat + 256 - (y.toNat + bit bin)) % 256) := by
  rw [lo8_sub8_value]
  exact BitVec.eq_of_toNat_eq (by rw [BitVec.toNat_ofNat, BitVec.toNat_ofNat, Nat.mod_mod])

/-! The two-operand operations on A (R170 to R177). -/

/-- The state after an instruction that leaves `a` in A, `f` in F and `r` in `scratch`, and falls through. -/
def State.afterAlu (s : State) (a : Byte) (f : Flags) (r : AluResult) (len : Word) (more : Nat) : State :=
  { s with regs.a := a, regs.f := f, scratch := r, pc := s.pc + len, idle := s.idle + more }

section
variable (src : State → Byte) (len : Word) (cycles : Nat) (s : State)

theorem addA_eq : addA src len cycles s = .next (afterAdd s (src s) false len (cycles - 1)) := by
  have h : addA src len cycles s =
      let r := add8 s.regs.a (src s) false
      .next (s.afterAlu (lo8 r.value) r.flags r len (cycles - 1)) := rfl
  simp only [h, lo8_add8_value]
  rw [add8_eq]
  rfl

theorem adcA_eq : adcA src len cycles s = .next (afterAdd s (src s) s.regs.f.c len (cycles - 1)) := by
  have h : adcA src len cycles s =
      let r := add8 s.regs.a (src s) s.regs.f.c
      .next (s.afterAlu (lo8 r.value) r.flags r len (cycles - 1)) := rfl
  simp only [h, lo8_add8_value]
  rw [add8_eq]
  rfl

theorem subA_eq : subA src len cycles s = .next (afterSub s (src s) false true len (cycles - 1)) := by
  have h : subA src len cycles s =
      let r := sub8 s.regs.a (src s) false
      .next (s.afterAlu (lo8 r.value) r.flags r len (cycles - 1)) := rfl
  simp only [h, lo8_sub8_value_mod]
  rw [sub8_eq]
  rfl

theorem sbcA_eq : sbcA src len cycles s = .next (afterSub s (src s) s.regs.f.c true len (cycles - 1)) := by
  have h : sbcA src len cycles s =
      let r := sub8 s.regs.a (src s) s.regs.f.c
      .next (s.afterAlu (lo8 r.value) r.flags r len (cycles - 1)) := rfl
  simp only [h, lo8_sub8_value_mod]
  rw [sub8_eq]
  rfl

theorem cpA_eq : cpA src len cycles s = .next (afterSub s (src s) false false len (cycles - 1)) := by
  have h : cpA src len cycles s =
      let r := sub8 s.regs.a (src s) false
      .next (s.afterAlu s.regs.a r.flags r len (cycles - 1)) := rfl
  rw [h, sub8_eq]
  rfl

theorem andA_eq : andA src len cycles s = .next (afterLogic s (s.regs.a &&& src s) true len (cycles - 1)) := rfl
theorem xorA_eq : xorA src len cycles s = .next (afterLogic s (s.regs.a ^^^ src s) false len (cycles - 1)) := rfl
theorem orA_eq : orA src len cycles s = .next (afterLogic s (s.regs.a ||| src s) false len (cycles - 1)) := rfl

end

theorem formCycles_sub_one (o : Operand8) : formCycles o 1 2 - 1 = memCycle o 1 := by cases o <;> rfl

/-- Settles O1: ADC is ADD with the flag C as the carry in. -/
theorem addAndAdcResult : Obligations.AddAndAdcResult := by
  intro s
  refine ⟨fun o => ?_, fun n8 => ?_⟩
  · rw [exec_aluOp, exec_aluOp, ← formCycles_sub_one]
    exact ⟨addA_eq _ _ _ s, adcA_eq _ _ _ s⟩
  · rw [exec_aluImm, exec_aluImm]
    exact ⟨addA_eq (fun _ => n8) 2 2 s, adcA_eq (fun _ => n8) 2 2 s⟩

/-- Settles O2: SBC is SUB with the flag C as the borrow in. -/
theorem subAndSbcResult : Obligations.SubAndSbcResult := by
  intro s
  refine ⟨fun o => ?_, fun n8 => ?_⟩
  · rw [exec_aluOp, exec_aluOp, ← formCycles_sub_one]
    exact ⟨subA_eq _ _ _ s, sbcA_eq _ _ _ s⟩
  · rw [exec_aluImm, exec_aluImm]
    exact ⟨subA_eq (fun _ => n8) 2 2 s, sbcA_eq (fun _ => n8) 2 2 s⟩

/-- Settles O3: CP is SUB without the write of A. -/
theorem compareResult : Obligations.CompareResult := by
  intro s
  refine ⟨fun o => ?_, fun n8 => ?_⟩
  · rw [exec_aluOp, ← formCycles_sub_one]
    exact cpA_eq _ _ _ s
  · rw [exec_aluImm]
    exact cpA_eq (fun _ => n8) 2 2 s

/-- Settles O4: the three write their value and its zero test; only AND sets H. -/
theorem logicResult : Obligations.LogicResult := by
  intro s
  refine ⟨fun o => ?_, fun n8 => ?_⟩
  · rw [exec_aluOp, exec_aluOp, exec_aluOp, ← formCycles_sub_one]
    exact ⟨andA_eq _ _ _ s, xorA_eq _ _ _ s, orA_eq _ _ _ s⟩
  · rw [exec_aluImm, exec_aluImm, exec_aluImm]
    exact ⟨andA_eq (fun _ => n8) 2 2 s, xorA_eq (fun _ => n8) 2 2 s, orA_eq (fun _ => n8) 2 2 s⟩

/-! INC and DEC (R178, R179). -/

theorem lo8_add8_one (v : Byte) : lo8 (add8 v 1 false).value = v + 1 := by
  rw [lo8_add8_value]
  exact BitVec.eq_of_toNat_eq (by simp [bit])

theorem lo8_sub8_one (v : Byte) : lo8 (sub8 v 1 false).value = v - 1 := by
  rw [lo8_sub8_value]
  apply BitVec.eq_of_toNat_eq
  rw [BitVec.toNat_ofNat, BitVec.toNat_sub]
  simp [bit]
  omega

/-- The flags INC composes: those of adding 1, but C as it was. -/
theorem incFlags_eq (v : Byte) (c : Bool) : { (add8 v 1 false).flags with c := c } = incFlags v c := by
  have := v.isLt
  rw [add8_eq, incFlags, Flags.mk.injEq]
  refine ⟨decide_eq_decide.2 ?_, rfl, decide_eq_decide.2 ?_, rfl⟩
  · rw [BitVec.toNat_eq]
    show (v.toNat + 1 + 0) % 256 = 0 ↔ v.toNat = 255
    omega
  · show v.toNat % 16 + 1 + 0 > 15 ↔ v.toNat % 16 = 15
    omega

/-- The flags DEC composes: those of subtracting 1, but C as it was. -/
theorem decFlags_eq (v : Byte) (c : Bool) : { (sub8 v 1 false).flags with c := c } = decFlags v c := by
  have := v.isLt
  rw [sub8_eq, decFlags, Flags.mk.injEq]
  refine ⟨decide_eq_decide.2 ?_, rfl, decide_eq_decide.2 ?_, rfl⟩
  · rw [BitVec.toNat_eq]
    show (v.toNat + 256 - (1 + 0)) % 256 = 0 ↔ v.toNat = 1
    omega
  · show v.toNat % 16 < 1 + 0 ↔ v.toNat % 16 = 0
    omega

/-- A register written, the flags composed from `scratch`, and the instruction over. -/
theorem retire_combineFlags_setReg (len : Word) (cycles : Nat) (zs ns hs cs : FlagSource) (s : State) (x : AluResult)
    (r : Reg8) (v : Byte) :
    retire len cycles (combineFlags zs ns hs cs ((s.setScratch x).setReg r v)) =
      { s.setReg r v with
        regs.f :=
          { z := zs.pick x.flags.z s.regs.f.z, n := ns.pick x.flags.n s.regs.f.n, h := hs.pick x.flags.h s.regs.f.h,
            c := cs.pick x.flags.c s.regs.f.c }
        scratch := x
        pc := s.pc + len
        idle := s.idle + (cycles - 1) } := by
  cases r <;> rfl

/-- Settles O5: the operand is a register, so no store is made. -/
theorem incDecRegisterResult : Obligations.IncDecRegisterResult := by
  intro s r
  refine ⟨⟨add8 (s.reg r) 1 false, ?_⟩, ⟨sub8 (s.reg r) 1 false, ?_⟩⟩
  · rw [exec_incOp, inc8, rd8_reg, wr8_reg, mapNext_next, retire_combineFlags_setReg, lo8_add8_one, ← incFlags_eq]
    cases r <;> rfl
  · rw [exec_decOp, dec8, rd8_reg, wr8_reg, mapNext_next, retire_combineFlags_setReg, lo8_sub8_one, ← decFlags_eq]
    cases r <;> rfl

/-! DAA, CPL, SCF and CCF (R180 to R183). -/

/-- The correction of DAA and the carry it leaves, digit by digit: 6 in a nibble that overflowed, by its flag or its digit. -/
theorem daaAdjust_eq (a : Byte) (f : Flags) :
    daaAdjust a f =
      ((if f.h || (!f.n && decide (a.toNat % 16 > 9)) then 0x06 else 0) +
        (if f.c || (!f.n && decide (a.toNat > 0x99)) then 0x60 else 0),
       f.c || (!f.n && decide (a.toNat > 0x99))) := by
  have or_eq_add (low high : Bool) :
      ((if low then 0x06 else 0) ||| (if high then 0x60 else 0) : Byte) =
        (if low then 0x06 else 0) + (if high then 0x60 else 0) := by cases low <;> cases high <;> rfl
  rw [← or_eq_add]
  cases hn : f.n <;> simp [daaAdjust, hn]

theorem daaOn_eq (s : State) :
    daaOn s =
      let r := daaResult s.regs.a s.regs.f
      .next (s.afterAlu (lo8 r.value) { z := r.flags.z, n := s.regs.f.n, h := false, c := r.flags.c } r 1 0) := rfl

/-- Settles O7: DAA by its correction, the other three by composition alone. -/
theorem decimalAndFlagResult : Obligations.DecimalAndFlagResult := by
  intro s a f low high adj v
  refine ⟨⟨daaResult s.regs.a s.regs.f, ?_⟩, ⟨_, rfl⟩, ⟨_, rfl⟩, ⟨_, rfl⟩⟩
  rw [exec_daa, daaOn_eq]
  simp only [daaResult, byteResult_value, byteResult_flags, daaAdjust_eq]
  rfl

/-! The 16-bit arithmetic instructions (R200 to R204). -/

/-- Settles O8: HL and the flags H and C are those of `add16_high`. -/
theorem addPairResult : Obligations.AddPairResult := by
  intro s p x y
  refine ⟨add16High s.hl (s.pair p), ?_⟩
  simp only [exec_addHL, addHLPair, add16High_eq]
  rfl

/-- Settles O9: the flags of the addition are discarded. -/
theorem incDecPairResult : Obligations.IncDecPairResult := by
  intro s p
  refine ⟨⟨add16High (s.pair p) 1, ?_⟩, ⟨s.scratch, ?_⟩⟩
  · simp only [exec_incPair, incPair, add16High_eq]
    cases p <;> rfl
  · rw [exec_decPair, decPair]
    cases p <;> rfl

theorem lo8_sext16 (v : Byte) : lo8 (sext16 v) = v := by
  apply BitVec.eq_of_getLsbD_eq
  intro i hi
  rw [lo8, sext16, BitVec.getLsbD_extractLsb', Nat.zero_add, BitVec.getLsbD_signExtend, if_pos hi]
  simp [hi, show i < 16 by omega]

theorem toNat_sext16_mod_256 (v : Byte) : (sext16 v).toNat % 256 = v.toNat := by rw [← toNat_lo8, lo8_sext16]

/-- The sum of SP and a signed offset, whose H and C are those of the low bytes (R203, R204). -/
theorem add16Low_sext16 (sp : Word) (e8 : Byte) :
    add16Low sp (sext16 e8) =
      { value := sp + sext16 e8
        flags :=
          { z := decide (sp + sext16 e8 = 0), n := false, h := decide (sp.toNat % 256 % 16 + e8.toNat % 16 > 15),
            c := decide (sp.toNat % 256 + e8.toNat > 255) } } := by
  have h16 : ∀ n : Nat, n % 16 = n % 256 % 16 := by omega
  rw [add16Low_eq, toNat_sext16_mod_256, h16 sp.toNat, h16 (sext16 e8).toNat, toNat_sext16_mod_256]

/-- Settles O10: one sum, written to SP or to HL. -/
theorem stackPointerOffsetResult : Obligations.StackPointerOffsetResult := by
  intro s e8 sum low f
  refine ⟨⟨add16Low s.sp (sext16 e8), ?_⟩, ⟨add16Low s.sp (sext16 e8), ?_⟩⟩
  · simp only [exec_addSPE8, addSPOffset, add16Low_sext16]
    rfl
  · simp only [exec_ldHLSPE8, loadHLSPOffset, add16Low_sext16]
    rfl

end Sys2Proof.Machine

/-! Rotates, shifts and bits on registers, the loads, and control flow without a push: the proofs about
spec/43_rotate_shift_bit.md, spec/44_load_store.md and spec/45_control_flow.md that store nothing. -/

namespace Sys2Proof.Machine

open Sys2Proof.Terms

/-! The values of the rotates and shifts (R210 to R221). -/

theorem rotate_left_eq (v : Byte) : rotate v .left = shiftResult (v.rotateLeft 1) (v.getLsbD 7) := by
  rw [rotate, bitAt_zero_eq_ushiftRight]
  rfl

theorem rotate_right_eq (v : Byte) : rotate v .right = shiftResult (v.rotateRight 1) (v.getLsbD 0) := by
  rw [rotate, bitAt_seven_eq_shiftLeft]
  rfl

theorem toNat_bitAt {n : Nat} (hn : n < 8) (c : Bool) : (bitAt n c).toNat = 2 ^ n * bit c := by
  cases c with
  | false => rfl
  | true =>
    rw [bitAt, if_pos rfl, ← BitVec.twoPow_eq, BitVec.toNat_twoPow_of_lt hn]
    exact (Nat.mul_one _).symm

/-- The bit fed in on the right of a left shift is added: the shift leaves that place clear. -/
theorem shiftLeft_or_bitAt (v : Byte) (c : Bool) : v <<< 1 ||| bitAt 0 c = BitVec.ofNat 8 (2 * v.toNat + bit c) := by
  have hdisjoint : v <<< 1 &&& bitAt 0 c = 0 := BitVec.eq_of_getLsbD_eq fun i hi => by
    rw [BitVec.getLsbD_and, getLsbD_bitAt hi, BitVec.getLsbD_shiftLeft]
    by_cases h : i = 0 <;> simp [h]
  apply BitVec.eq_of_toNat_eq
  rw [← BitVec.add_eq_or_of_and_eq_zero _ _ hdisjoint, BitVec.toNat_add, toNat_bitAt (by decide), BitVec.toNat_shiftLeft,
    BitVec.toNat_ofNat, Nat.shiftLeft_eq]
  omega

/-- The bit fed in on the left of a right shift is added. -/
theorem ushiftRight_or_bitAt (v : Byte) (c : Bool) : v >>> 1 ||| bitAt 7 c = BitVec.ofNat 8 (v.toNat / 2 + 128 * bit c) := by
  have hdisjoint : v >>> 1 &&& bitAt 7 c = 0 := BitVec.eq_of_getLsbD_eq fun i hi => by
    rw [BitVec.getLsbD_and, getLsbD_bitAt hi, BitVec.getLsbD_ushiftRight]
    by_cases h : i = 7 <;> simp [h]
  apply BitVec.eq_of_toNat_eq
  rw [← BitVec.add_eq_or_of_and_eq_zero _ _ hdisjoint, BitVec.toNat_add, toNat_bitAt (by decide), BitVec.toNat_ushiftRight,
    BitVec.toNat_ofNat, Nat.shiftRight_eq_div_pow]
  omega

theorem carryRotate_left_eq (v : Byte) (f : Flags) :
    carryRotate v .left f = shiftResult (BitVec.ofNat 8 (2 * v.toNat + bit f.c)) (v.getLsbD 7) := by
  rw [carryRotate, shiftLeft_or_bitAt]

theorem carryRotate_right_eq (v : Byte) (f : Flags) :
    carryRotate v .right f = shiftResult (BitVec.ofNat 8 (v.toNat / 2 + 128 * bit f.c)) (v.getLsbD 0) := by
  rw [carryRotate, ushiftRight_or_bitAt]

theorem shift_left_eq (v : Byte) : shift v .left = shiftResult (BitVec.ofNat 8 (2 * v.toNat)) (v.getLsbD 7) := by
  rw [shift_left_feeds_zero, shiftLeft_or_bitAt]
  rfl

theorem shift_right_eq (v : Byte) : shift v .right = shiftResult (BitVec.ofNat 8 (v.toNat / 2)) (v.getLsbD 0) := by
  rw [shift_right_feeds_zero, ushiftRight_or_bitAt]
  rfl

theorem shiftRA_eq (v : Byte) : shiftRA v = shiftResult (v.sshiftRight 1) (v.getLsbD 0) := by
  rw [shiftRA_feeds_sign]
  congr 1
  apply BitVec.eq_of_getLsbD_eq
  intro i hi
  rw [getLsbD_ushiftRight_or_bitAt v _ hi, BitVec.getLsbD_sshiftRight]
  by_cases h : i = 7
  · simp [h, BitVec.msb_eq_getLsbD_last]
  · simp [h, Nat.add_comm 1 i, show i + 1 < 8 by omega, show ¬ 8 ≤ i by omega]

theorem swap_nibbles (v : Byte) : lsb4 v ++ msb4 v = BitVec.ofNat 8 (16 * (v.toNat % 16) + v.toNat / 16) := by
  have := v.isLt
  apply BitVec.eq_of_toNat_eq
  rw [BitVec.toNat_append, ← Nat.shiftLeft_add_eq_or_of_lt (msb4 v).isLt, Nat.shiftLeft_eq, toNat_lsb4, toNat_msb4,
    BitVec.toNat_ofNat]
  omega

/-- What the ALU answers for the rotate or shift `op` of `v` (R214 to R221): see `shiftMeaning_eq`. -/
def shiftAlu (op : ShiftOp) (v : Byte) (f : Flags) : AluResult :=
  match op with
  | .rlc => rotate v .left
  | .rrc => rotate v .right
  | .rl => carryRotate v .left f
  | .rr => carryRotate v .right f
  | .sla => shift v .left
  | .sra => shiftRA v
  | .swap => plainResult (lsb4 v ++ msb4 v)
  | .srl => shift v .right

/-- Where C comes from: SWAP forces it to 0 (R220). -/
def shiftCarrySource (op : ShiftOp) : FlagSource := if op = .swap then .clear else .alu

theorem shiftMeaning_eq (op : ShiftOp) (o : Operand8) (cycles : Nat) (s : State) :
    shiftMeaning op o cycles s = rewrite8 o (shiftAlu op (rd8 o s) s.regs.f) (shiftCarrySource op) cycles s := by
  cases op <;> rfl

theorem shiftAlu_eq (op : ShiftOp) (v : Byte) (f : Flags) :
    shiftAlu op v f = shiftResult (shifted op v f.c) (shiftedOut op v) := by
  cases op with
  | rlc => exact rotate_left_eq v
  | rrc => exact rotate_right_eq v
  | rl => exact carryRotate_left_eq v f
  | rr => exact carryRotate_right_eq v f
  | sla => exact shift_left_eq v
  | sra => exact shiftRA_eq v
  | swap => exact congrArg plainResult (swap_nibbles v)
  | srl => exact shift_right_eq v

theorem lo8_shiftAlu (op : ShiftOp) (v : Byte) (f : Flags) : lo8 (shiftAlu op v f).value = shifted op v f.c := by
  rw [shiftAlu_eq]
  exact byteResult_value _ _

/-- The flags an extended rotate or shift composes from its result. -/
theorem shiftedFlags_eq (op : ShiftOp) (v : Byte) (f : Flags) :
    { z := (shiftAlu op v f).flags.z, n := false, h := false,
      c := (shiftCarrySource op).pick (shiftAlu op v f).flags.c f.c } = shiftedFlags op v f.c := by
  rw [shiftAlu_eq]
  cases op <;> rfl

/-! On registers. -/

theorem accRotate_eq (g : State → AluResult) (s : State) :
    accRotate g s = .next (s.afterAlu (lo8 (g s).value) { z := false, n := false, h := false, c := (g s).flags.c } (g s) 1 0) :=
  rfl

/-- Settles O11: each is the result of its extended twin on A, composed with Z clear. -/
theorem accumulatorRotateResult : Obligations.AccumulatorRotateResult := by
  intro s i op h
  refine ⟨shiftAlu op s.regs.a s.regs.f, ?_⟩
  have hi : exec i s = accRotate (fun t => shiftAlu op t.regs.a t.regs.f) s := by
    simp only [List.mem_cons, Prod.mk.injEq, List.not_mem_nil, or_false] at h
    rcases h with ⟨rfl, rfl⟩ | ⟨rfl, rfl⟩ | ⟨rfl, rfl⟩ | ⟨rfl, rfl⟩ <;> rfl
  rw [hi, accRotate_eq, lo8_shiftAlu, shiftAlu_eq]
  rfl

/-- Settles O12: the result written back and composed with C the bit that left. -/
theorem shiftRegisterResult : Obligations.ShiftRegisterResult := by
  intro s op r v c
  refine ⟨shiftAlu op v s.regs.f, ?_⟩
  rw [exec_shiftOp, shiftMeaning_eq, rewrite8, rd8_reg, wr8_reg, mapNext_next, retire_combineFlags_setReg, lo8_shiftAlu,
    ← shiftedFlags_eq]
  cases r <;> rfl

/-- A bit number an opcode can name needs no saturation. -/
theorem clampIndex_fin (b : Fin 8) : clampIndex b.val = b.val := by
  rw [clampIndex]
  omega

theorem bitUnset_eq_withoutBit (v : Byte) (b : Fin 8) : bitUnset v b.val = withoutBit v b := by
  rw [bitUnset, clampIndex_fin, withoutBit]

theorem bitSet_eq_withBit (v : Byte) (b : Fin 8) : bitSet v b.val = withBit v b := by
  rw [bitSet, clampIndex_fin, withBit]

/-- Settles O14: the operand is read and Z is its bit negated. -/
theorem bitTestResult : Obligations.BitTestResult := by
  intro s b o
  refine ⟨byteResult (rd8 o s) { z := !(rd8 o s).getLsbD b.val, n := false, h := false, c := false }, ?_⟩
  rw [exec_bitOp, bitTest, bitGet, clampIndex_fin]
  cases o <;> rfl

/-- Settles O15: one bit of the register rewritten, each flag composed from itself. -/
theorem resSetRegisterResult : Obligations.ResSetRegisterResult := by
  intro s b r
  refine ⟨⟨plainResult (withoutBit (s.reg r) b), ?_⟩, ⟨plainResult (withBit (s.reg r) b), ?_⟩⟩
  · rw [exec_resOp, bitReset, rewriteBit, rd8_reg, wr8_reg, mapNext_next, retire_combineFlags_setReg,
      bitUnset_eq_withoutBit]
    cases r <;> rfl
  · rw [exec_setOp, bitSetOn, rewriteBit, rd8_reg, wr8_reg, mapNext_next, retire_combineFlags_setReg, bitSet_eq_withBit]
    cases r <;> rfl

/-! Loads (R242, R245 to R264). -/

theorem loadReg_eq (dst : Reg8) (value : State → Byte) (len : Word) (cycles : Nat) (s : State) :
    loadReg dst value len cycles s =
      .next { s.setReg dst (value s) with pc := s.pc + len, idle := s.idle + (cycles - 1) } := by
  cases dst <;> rfl

/-- A register load that costs one cycle leaves `idle`. -/
theorem loadReg_one (dst : Reg8) (value : State → Byte) (len : Word) (s : State) :
    loadReg dst value len 1 s = .next { s.setReg dst (value s) with pc := s.pc + len } := by
  cases dst <;> rfl

/-- Settles O17: a read of a register, an immediate or the bus, put in the register. -/
theorem loadByteResult : Obligations.LoadByteResult := by
  intro s
  refine ⟨fun dst r => ?_, fun dst n8 => ?_, fun dst => ?_, rfl, rfl, rfl, rfl, fun a8 => rfl, rfl, fun a16 => rfl⟩
  · rw [exec_ldRegReg, loadReg_one]
  · rw [exec_ldImm_reg, loadReg_eq]
  · rw [exec_ldRegMem, loadReg_eq]
    rfl

theorem popValue_eq (s : State) : popValue s = wordAt s s.sp := rfl

/-- Settles O18: the pair written, SP moved up by the pop. -/
theorem loadPairResult : Obligations.LoadPairResult := by
  intro s
  refine ⟨fun p n16 => ?_, rfl, fun p => ?_⟩
  · rw [exec_ldPairImm, loadPairImm]
    cases p <;> rfl
  · rw [exec_popOp, popPair, popValue_eq]
    cases p <;> rfl

/-! Control flow without a push (R280 to R298). -/

/-- Settles O21: a jump writes `pc` and its cost, a jump not taken only falls through (R285). -/
theorem jumpResult : Obligations.JumpResult := by
  intro s
  refine ⟨fun a16 => rfl, rfl, fun e8 => rfl, fun cc a16 => ?_, fun cc e8 => ?_⟩
  · rw [exec_jpCond, jumpIf]
    rfl
  · rw [exec_jrCond, jumpIf]
    rfl

/-- Settles O23: a return pops `pc`. -/
theorem returnResult : Obligations.ReturnResult := by
  intro s
  refine ⟨rfl, rfl, fun cc => ?_⟩
  rw [exec_retCond, returnIf]
  rfl

/-- Settles O24. -/
theorem controlResult : Obligations.ControlResult := by
  intro s i t h
  simp only [List.mem_cons, Prod.mk.injEq, List.not_mem_nil, or_false] at h
  rcases h with ⟨rfl, rfl⟩ | ⟨rfl, rfl⟩ | ⟨rfl, rfl⟩ | ⟨rfl, rfl⟩ | ⟨rfl, rfl⟩
  · exact exec_nop s
  · exact exec_stop s
  · exact exec_halt s
  · exact exec_di s
  · exact exec_ei s

end Sys2Proof.Machine

/-! Stores, pushes and calls: the proofs about spec/20_memory.md, spec/44_load_store.md and spec/45_control_flow.md that store. -/

namespace Sys2Proof.Machine

open Sys2Proof.Terms

/-! What a read depends on. -/

/-- `s` and `t` have the same cell map and the same bytes behind it. -/
structure SameBus (s t : State) : Prop where
  cells : t.cells = s.cells
  mem : t.mem = s.mem
  ie : t.ie = s.ie
  iflag : t.iflag = s.iflag

section
variable {s t u : State} {a v : Word} {b : Byte}

theorem SameBus.place (h : SameBus s t) (x : Word) : t.place x = s.place x := place_congr h.cells x

theorem SameBus.busRead (h : SameBus s t) (x : Word) : busRead t x = busRead s x :=
  busRead_congr h.cells h.mem h.ie h.iflag x

theorem SameBus.byteMapped (h : SameBus s t) (hm : ByteMapped s a) : ByteMapped t a := by
  rwa [ByteMapped, h.mem, h.place]

theorem SameBus.wordMapped (h : SameBus s t) (hm : WordMapped s a) : WordMapped t a := by
  rwa [WordMapped, h.mem, h.place, h.place]

theorem SameBus.storedByte_before (h : SameBus s u) (hst : StoredByte u t a b) : StoredByte s t a b := by
  simpa only [StoredByte, h.place, h.busRead, h.mem, h.ie, h.iflag] using hst

theorem SameBus.storedByte_after (h : SameBus t u) (hst : StoredByte s t a b) : StoredByte s u a b := by
  simpa only [StoredByte, h.busRead, h.mem, h.ie, h.iflag] using hst

theorem SameBus.storedWord_before (h : SameBus s u) (hst : StoredWord u t a v) : StoredWord s t a v := by
  simpa only [StoredWord, h.place, h.busRead, h.mem, h.ie, h.iflag] using hst

theorem SameBus.storedWord_after (h : SameBus t u) (hst : StoredWord s t a v) : StoredWord s u a v := by
  simpa only [StoredWord, h.busRead, h.mem, h.ie, h.iflag] using hst

/-! What a store leaves. -/

theorem sameButStore_iff :
    SameButStore s t a ↔ ∃ m e f, t = { s with lastWrite := a, mem := m, ie := e, iflag := f } := by
  constructor
  · exact fun h => ⟨_, _, _, h⟩
  · rintro ⟨m, e, f, rfl⟩
    rfl

/-- Two stores are a store of a word: the second byte covers the first where they share a cell (R79). -/
theorem storedWord_poke (h : WordMapped s a) (v : Word) :
    StoredWord s (poke (poke s a (lo8 v)) (a + 1) (hi8 v)) a v := by
  obtain ⟨hwf, hlow, hhigh⟩ := h
  obtain ⟨read1, mem1, ie1, iflag1⟩ := storedByte_poke ⟨hwf, hlow⟩ (lo8 v)
  obtain ⟨read2, mem2, ie2, iflag2⟩ :=
    storedByte_poke (s := poke s a (lo8 v)) (a := a + 1) ⟨wf_poke s a _ hwf, by rwa [place_poke]⟩ (hi8 v)
  refine ⟨fun x => ?_, fun k => ?_, ?_, ?_⟩
  · rw [read2, read1, place_poke, place_poke]; rfl
  · rw [mem2, mem1, place_poke]; rfl
  · rw [ie2, ie1, place_poke]; rfl
  · rw [iflag2, iflag1, place_poke]; rfl

theorem sameButStore_poke_poke (s : State) (a : Word) (v : Word) :
    SameButStore s ((poke (poke s a (lo8 v)) (a + 1) (hi8 v)).setLastWrite a) a := by
  have h1 := poke_frame s a (lo8 v)
  have h2 := poke_frame (poke s a (lo8 v)) (a + 1) (hi8 v)
  generalize poke (poke s a (lo8 v)) (a + 1) (hi8 v) = t at h2 ⊢
  generalize poke s a (lo8 v) = p at h1 h2
  rw [h1] at h2
  exact sameButStore_iff.2 ⟨t.mem, t.ie, t.iflag, congrArg (fun t => State.setLastWrite t a) h2⟩

theorem memWrite8_stores (h : ByteMapped s a) (b : Byte) :
    ∃ t, memWrite8 s a b = .next t ∧ StoredByte s t a b ∧ SameButStore s t a :=
  ⟨_, memWrite8_mapped s a b h.2, storedByte_poke h b, sameButStore_poke s a b⟩

theorem memWrite16_stores (h : WordMapped s a) (v : Word) :
    ∃ t, memWrite16 s a v = .next t ∧ StoredWord s t a v ∧ SameButStore s t a :=
  ⟨_, memWrite16_mapped s a v h.2.1 h.2.2, storedWord_poke h v, sameButStore_poke_poke s a v⟩

theorem push_stores (h : WordMapped s (pushAt s)) (v : Word) :
    ∃ t, push v s = .next t ∧ StoredWord s t (pushAt s) v ∧ SameButStore { s with sp := pushAt s } t (pushAt s) := by
  have hb : SameBus s { s with sp := pushAt s } := ⟨rfl, rfl, rfl, rfl⟩
  obtain ⟨t, ht, hst, hsame⟩ := memWrite16_stores (hb.wordMapped h) v
  exact ⟨t, ht, hb.storedWord_before hst, hsame⟩

end

/-! What follows the store in an instruction. -/

/-- `g` leaves the bus as it is and does not depend on what a store changes. -/
structure Ending (g : State → State) : Prop where
  bus : ∀ u, SameBus u (g u)
  store : ∀ (u : State) (a : Word) (m : List Host.Cell) (e f : Byte),
    g { u with lastWrite := a, mem := m, ie := e, iflag := f } = { g u with lastWrite := a, mem := m, ie := e, iflag := f }

theorem Ending.sameButStore {g : State → State} (hg : Ending g) {u t : State} {a : Word} (h : SameButStore u t a) :
    SameButStore (g u) (g t) a := by
  obtain ⟨m, e, f, rfl⟩ := sameButStore_iff.1 h
  exact sameButStore_iff.2 ⟨m, e, f, hg.store u a m e f⟩

theorem Ending.retire (len : Word) (cycles : Nat) : Ending (retire len cycles) :=
  ⟨fun _ => ⟨rfl, rfl, rfl, rfl⟩, fun _ _ _ _ _ => rfl⟩

theorem Ending.jumpTo (target : Word) (cycles : Nat) : Ending (jumpTo target cycles) :=
  ⟨fun _ => ⟨rfl, rfl, rfl, rfl⟩, fun _ _ _ _ _ => rfl⟩

theorem Ending.composed (zs ns hs cs : FlagSource) (len : Word) (cycles : Nat) :
    Ending fun t => Machine.retire len cycles (combineFlags zs ns hs cs t) :=
  ⟨fun _ => ⟨rfl, rfl, rfl, rfl⟩, fun _ _ _ _ _ => rfl⟩

theorem Ending.pointer (p : Pointer) (len : Word) (cycles : Nat) :
    Ending fun t => Machine.retire len cycles (movePointer p t) := by
  cases p <;> exact ⟨fun _ => ⟨rfl, rfl, rfl, rfl⟩, fun _ _ _ _ _ => rfl⟩

section
variable {i : Instr} {s s0 : State} {a : Word} {g : State → State}

/-- An instruction that stores a byte and then only ends. -/
theorem runsStoringByte {b : Byte} (hg : Ending g) (hexec : exec i s = mapNext (memWrite8 s0 a b) g) (hb : SameBus s s0)
    (hm : ByteMapped s a) : RunsStoringByte i s a b (g s0) := by
  obtain ⟨t, ht, hst, hsame⟩ := memWrite8_stores (hb.byteMapped hm) b
  refine ⟨g t, by rw [hexec, ht, mapNext_next], ?_, hg.sameButStore hsame⟩
  exact hb.storedByte_before ((hg.bus t).storedByte_after hst)

/-- An instruction that stores a word and then only ends. -/
theorem runsStoringWord {v : Word} (hg : Ending g) (hexec : exec i s = mapNext (memWrite16 s0 a v) g) (hb : SameBus s s0)
    (hm : WordMapped s a) : RunsStoringWord i s a v (g s0) := by
  obtain ⟨t, ht, hst, hsame⟩ := memWrite16_stores (hb.wordMapped hm) v
  refine ⟨g t, by rw [hexec, ht, mapNext_next], ?_, hg.sameButStore hsame⟩
  exact hb.storedWord_before ((hg.bus t).storedWord_after hst)

end

/-- A byte rewritten at HL with its result in `scratch`, and the flags composed (R225). -/
theorem rewrite_atHL_runs {i : Instr} {s : State} {b : Byte} {x : AluResult} (zs ns hs cs : FlagSource) (len : Word)
    (cycles : Nat)
    (hexec : exec i s =
      mapNext (wr8 .atHL b (s.setScratch x)) fun t => retire len cycles (combineFlags zs ns hs cs t))
    (hm : ByteMapped s s.hl) :
    RunsStoringByte i s s.hl b (retire len cycles (combineFlags zs ns hs cs (s.setScratch x))) :=
  runsStoringByte (g := fun t => retire len cycles (combineFlags zs ns hs cs t)) (Ending.composed zs ns hs cs len cycles)
    hexec ⟨rfl, rfl, rfl, rfl⟩ hm

/-- Settles O6: the flags are those of the register form, the byte goes to HL. -/
theorem incDecMemoryResult : Obligations.IncDecMemoryResult := by
  intro s hm
  refine ⟨⟨add8 (busRead s s.hl) 1 false, ?_⟩, ⟨sub8 (busRead s s.hl) 1 false, ?_⟩⟩
  · rw [← lo8_add8_one, ← incFlags_eq]
    exact rewrite_atHL_runs .alu .clear .alu .cpu 1 3 (exec_incOp .atHL s) hm
  · rw [← lo8_sub8_one, ← decFlags_eq]
    exact rewrite_atHL_runs .alu .set .alu .cpu 1 3 (exec_decOp .atHL s) hm

/-- Settles O13: the value and flags of the register form, the byte at HL. -/
theorem shiftMemoryResult : Obligations.ShiftMemoryResult := by
  intro s op hm v c
  refine ⟨shiftAlu op v s.regs.f, ?_⟩
  rw [← lo8_shiftAlu, ← shiftedFlags_eq]
  exact rewrite_atHL_runs .alu .clear .clear (shiftCarrySource op) 2 4
    ((exec_shiftOp op .atHL s).trans (shiftMeaning_eq op .atHL 4 s)) hm

/-- Settles O16. -/
theorem resSetMemoryResult : Obligations.ResSetMemoryResult := by
  intro s b hm
  refine ⟨⟨plainResult (bitUnset (busRead s s.hl) b.val), ?_⟩, ⟨plainResult (bitSet (busRead s s.hl) b.val), ?_⟩⟩
  · rw [← bitUnset_eq_withoutBit]
    exact rewrite_atHL_runs .cpu .cpu .cpu .cpu 2 4 (exec_resOp b .atHL s) hm
  · rw [← bitSet_eq_withBit]
    exact rewrite_atHL_runs .cpu .cpu .cpu .cpu 2 4 (exec_setOp b .atHL s) hm

/-! Stores of a register or an immediate (R244, R248, R250 to R265). -/

theorem store8_runs {i : Instr} {s : State} {address : State → Word} {value : State → Byte} {len : Word} {cycles : Nat}
    (hexec : exec i s = store8 address value len cycles s) (hm : ByteMapped s (address s)) :
    RunsStoringByte i s (address s) (value s) { s with pc := s.pc + len, idle := s.idle + (cycles - 1) } :=
  runsStoringByte (Ending.retire len cycles) hexec ⟨rfl, rfl, rfl, rfl⟩ hm

theorem storeAPointer_runs {s : State} (p : Pointer) (hm : ByteMapped s (pointerAddr p s)) :
    RunsStoringByte (Instr.ldPtrA p) s (pointerAddr p s) s.regs.a (retire 1 2 (movePointer p s)) :=
  runsStoringByte (g := fun t => retire 1 2 (movePointer p t)) (Ending.pointer p 1 2) (exec_ldPtrA p s)
    ⟨rfl, rfl, rfl, rfl⟩ hm

/-- Settles O19: one byte store, after which HL moves in the two post forms. -/
theorem storeByteResult : Obligations.StoreByteResult := by
  intro s
  refine ⟨fun r hm => ?_, fun n8 hm => ?_, fun hm => ?_, fun hm => ?_, fun hm => ⟨?_, ?_⟩, fun a8 hm => ?_, fun hm => ?_,
    fun a16 hm => ?_⟩
  · exact store8_runs (exec_ldMemReg r s) hm
  · exact store8_runs (exec_ldImm_atHL n8 s) hm
  · exact storeAPointer_runs .bc hm
  · exact storeAPointer_runs .de hm
  · exact storeAPointer_runs .hlInc hm
  · exact storeAPointer_runs .hlDec hm
  · exact store8_runs (exec_ldhAtA8A a8 s) hm
  · exact store8_runs (exec_ldAtCA s) hm
  · exact store8_runs (exec_ldAtA16A a16 s) hm

/-! Words and pushes (R79, R241, R260, R262). -/

/-- An instruction that pushes a word and then only ends. -/
theorem push_runs {i : Instr} {s : State} {v : Word} {g : State → State} (hg : Ending g)
    (hexec : exec i s = mapNext (push v s) g) (hm : WordMapped s (pushAt s)) : RunsStoringWord i s (pushAt s) v (g { s with sp := pushAt s }) :=
  runsStoringWord hg hexec ⟨rfl, rfl, rfl, rfl⟩ hm

/-- Settles O20. -/
theorem storeWordResult : Obligations.StoreWordResult := by
  intro s
  refine ⟨fun a16 hm => ?_, fun p hm => ?_⟩
  · exact runsStoringWord (Ending.retire 3 5) (exec_ldAtA16SP a16 s) ⟨rfl, rfl, rfl, rfl⟩ hm
  · exact push_runs (Ending.retire 1 4) (exec_pushOp p s) hm

/-- A word of the bus after a push that lies elsewhere. -/
theorem wordAt_of_pushOffOperand {s t : State} {v : Word} (hst : StoredWord s t (pushAt s) v) (hoff : PushOffOperand s) :
    wordAt t (s.pc + 1) = wordAt s (s.pc + 1) := by
  obtain ⟨hread, _⟩ := hst
  obtain ⟨⟨hlow, hlow'⟩, hhigh, hhigh'⟩ := (List.forall_mem_cons.trans (and_congr_right' List.forall_mem_singleton)).1 hoff
  have hnext : s.pc + 1 + 1 = s.pc + 2 := BitVec.add_assoc _ _ _
  rw [wordAt, wordAt, hnext, hread, hread, if_neg hlow', if_neg hlow, if_neg hhigh', if_neg hhigh]

/-- A taken CALL pushes and then jumps to its operand bytes as they are now (R286). -/
theorem call_runs {i : Instr} {s : State} (hexec : exec i s = call imm16 3 6 s) (a16 : Word) (hm : WordMapped s (pushAt s)) :
    RunsCalling i s a16 := by
  obtain ⟨t, ht, hst, hsame⟩ := push_stores hm (s.pc + 3)
  have hpc : t.pc = s.pc := by
    obtain ⟨_, _, _, rfl⟩ := sameButStore_iff.1 hsame
    rfl
  have htarget : imm16 t = wordAt t (s.pc + 1) := by rw [imm16, hpc]; rfl
  have hg := Ending.jumpTo (wordAt t (s.pc + 1)) 6
  refine ⟨jumpTo (wordAt t (s.pc + 1)) 6 t, ?_, (hg.bus t).storedWord_after hst, hg.sameButStore hsame, fun ha hoff => ?_⟩
  · rw [hexec, call, ht, mapNext_next, htarget]
  · rw [jumpTo_pc, wordAt_of_pushOffOperand hst hoff, ha]

/-- Settles O22: a taken conditional call is the call, one not taken only falls through. -/
theorem callResult : Obligations.CallResult := by
  intro s
  refine ⟨fun a16 hm => call_runs (exec_callA16 a16 s) a16 hm, fun cc a16 hcc hm => call_runs ?_ a16 hm,
    fun cc a16 hcc => ?_, fun t hm => ?_⟩
  · rw [exec_callCond, callIf, if_pos hcc]
  · rw [exec_callCond, callIf, if_neg (by rw [hcc]; exact Bool.false_ne_true)]
    rfl
  · exact push_runs (Ending.jumpTo _ 4) (exec_rst t s) hm

/-! Reading back (R77, R242). -/

/-- Both bytes of a word stored in two different cells are read back. -/
theorem storedWord_read_back {s t : State} {a v : Word} (h : StoredWord s t a v) (hne : s.place a ≠ s.place (a + 1)) :
    busRead t a = lo8 v ∧ busRead t (a + 1) = hi8 v := by
  obtain ⟨hread, _⟩ := h
  exact ⟨by rw [hread, if_neg hne, if_pos rfl]; rfl, by rw [hread, if_pos rfl]; rfl⟩

theorem storedWord_memRead16 {s t : State} {a v : Word} (h : StoredWord s t a v) (hne : s.place a ≠ s.place (a + 1)) :
    memRead16 t a = v := by
  obtain ⟨hlow, hhigh⟩ := storedWord_read_back h hne
  rw [memRead16, hlow, hhigh, merge8_lo_hi]

/-- Settles O39: what was stored is read where it was stored, and the pop undoes the move of SP. -/
theorem wordRoundTrip : Obligations.WordRoundTrip := by
  intro s a v
  refine ⟨fun hm hne => ?_, fun hm hne => ?_⟩
  · obtain ⟨t, ht, hst, hsame⟩ := memWrite16_stores hm v
    obtain ⟨hlow, hhigh⟩ := storedWord_read_back hst hne
    have hlast : t.lastWrite = a := by rw [hsame]
    exact ⟨t, ht, storedWord_memRead16 hst hne, hlow, hhigh, hlast⟩
  · obtain ⟨t, ht, hst, hsame⟩ := push_stores hm v
    have hsp : t.sp = pushAt s := by rw [hsame]
    refine ⟨t, ht, ?_, fun h2 => ?_, fun h2 => ?_⟩
    · rw [popValue, hsp, storedWord_memRead16 hst hne]
    · rw [dropWord_sp, hsp, pushAt, if_neg (by omega), BitVec.sub_add_cancel]
    · rw [dropWord_sp, hsp, pushAt, if_pos h2]

/-! Interrupts (R314). -/

theorem bitUnset_line (v : Byte) (i : Line) : bitUnset v (Line.bit i) = v &&& ~~~(1#8 <<< Line.bit i) := by
  cases i <;> rfl

/-- The state in which an interrupt pushes `pc`. -/
def State.interrupted (s : State) (i : Line) : State := { s with ime := false, iflag := s.iflag &&& ~~~(1#8 <<< Line.bit i) }

/-- What taking an interrupt does after its push. -/
def enterInterrupt (i : Line) (u : State) : State :=
  { u with pc := Line.vector i, idle := u.idle + u.params.intServiceCycles }

theorem Ending.enterInterrupt (i : Line) : Ending (enterInterrupt i) :=
  ⟨fun _ => ⟨rfl, rfl, rfl, rfl⟩, fun _ _ _ _ _ => rfl⟩

theorem takeInterrupt_eq (i : Line) (s : State) :
    takeInterrupt i s = mapNext (push s.pc (s.interrupted i)) (enterInterrupt i) := by
  rw [takeInterrupt, bitUnset_line]
  rfl

/-- Settles O44: a push of `pc` from the state with IME and the line's bit cleared, then the vector. -/
theorem interruptTaken : Obligations.InterruptTaken := by
  intro s i h0 hime hp
  rw [cpuCycle_interrupt h0 hime hp, takeInterrupt_eq]
  refine ⟨fun hm => ?_, fun hlow => ?_, fun hlow hhigh => ?_⟩
  · obtain ⟨t, ht, hst, hsame⟩ := push_stores (s := s.awake.interrupted i) hm s.pc
    have hg := Ending.enterInterrupt i
    refine ⟨enterInterrupt i t, ?_, (hg.bus t).storedWord_after hst, ?_⟩
    · rw [show s.awake.pc = s.pc from rfl, ht, mapNext_next]
    · have henter := hg.sameButStore hsame
      rw [← Nat.zero_add s.params.intServiceCycles, ← h0]
      exact henter
  · have hfault := memWrite16_unmapped_low { s.awake.interrupted i with sp := pushAt s } (pushAt s) s.pc hlow
    exact congrArg (fun r => mapNext r (enterInterrupt i)) hfault
  · have hfault := memWrite16_unmapped_high { s.awake.interrupted i with sp := pushAt s } (pushAt s) s.pc hlow hhigh
    exact congrArg (fun r => mapNext r (enterInterrupt i)) hfault

end Sys2Proof.Machine

/-! Every instruction at once: where it stores, when it faults, what it leaves unchanged, its length and its cost. -/

namespace Sys2Proof.Machine

open Sys2Proof.Terms

/-! The rows of the opcode table by form (R118). -/

theorem row_aluOp (op : AluOp) (o : Operand8) : (Instr.aluOp op o).row = ⟨.alu, 1, formCycles o 1 2, 0⟩ := by
  rcases o with r | _
  · cases op <;> cases r <;> rfl
  · cases op <;> rfl
theorem row_aluImm (op : AluOp) (n8 : Byte) : (Instr.aluImm op n8).row = ⟨.alu, 2, 2, 0⟩ := by cases op <;> rfl
theorem row_incOp (o : Operand8) : (Instr.incOp o).row = ⟨.alu, 1, formCycles o 1 3, 0⟩ := by
  rcases o with r | _
  · cases r <;> rfl
  · rfl
theorem row_decOp (o : Operand8) : (Instr.decOp o).row = ⟨.alu, 1, formCycles o 1 3, 0⟩ := by
  rcases o with r | _
  · cases r <;> rfl
  · rfl
theorem row_ldRegReg (dst src : Reg8) : (Instr.ldRegReg dst src).row = ⟨.load, 1, 1, 0⟩ := by
  cases dst <;> cases src <;> rfl
theorem row_ldRegMem (dst : Reg8) : (Instr.ldRegMem dst).row = ⟨.load, 1, 2, 0⟩ := by cases dst <;> rfl
theorem row_ldMemReg (src : Reg8) : (Instr.ldMemReg src).row = ⟨.load, 1, 2, 0⟩ := by cases src <;> rfl
theorem row_ldImm_reg (dst : Reg8) (n8 : Byte) : (Instr.ldImm (.reg dst) n8).row = ⟨.load, 2, 2, 0⟩ := by
  cases dst <;> rfl
theorem row_ldPairImm (p : Reg16) (n16 : Word) : (Instr.ldPairImm p n16).row = ⟨.load, 3, 3, 0⟩ := by cases p <;> rfl
theorem row_addHL (p : Reg16) : (Instr.addHL p).row = ⟨.alu, 1, 2, 0⟩ := by cases p <;> rfl
theorem row_incPair (p : Reg16) : (Instr.incPair p).row = ⟨.alu, 1, 2, 0⟩ := by cases p <;> rfl
theorem row_decPair (p : Reg16) : (Instr.decPair p).row = ⟨.alu, 1, 2, 0⟩ := by cases p <;> rfl
theorem row_ldAPtr (p : Pointer) : (Instr.ldAPtr p).row = ⟨.load, 1, 2, 0⟩ := by cases p <;> rfl
theorem row_ldPtrA (p : Pointer) : (Instr.ldPtrA p).row = ⟨.load, 1, 2, 0⟩ := by cases p <;> rfl
theorem row_pushOp (p : StackPair) : (Instr.pushOp p).row = ⟨.load, 1, 4, 0⟩ := by cases p <;> rfl
theorem row_popOp (p : StackPair) : (Instr.popOp p).row = ⟨.load, 1, 3, 0⟩ := by cases p <;> rfl
theorem row_jrCond (cc : Cond) (e8 : Byte) : (Instr.jrCond cc e8).row = ⟨.control, 2, 2, 1⟩ := by cases cc <;> rfl
theorem row_jpCond (cc : Cond) (a16 : Word) : (Instr.jpCond cc a16).row = ⟨.control, 3, 3, 1⟩ := by cases cc <;> rfl
theorem row_callCond (cc : Cond) (a16 : Word) : (Instr.callCond cc a16).row = ⟨.control, 3, 3, 3⟩ := by cases cc <;> rfl
theorem row_retCond (cc : Cond) : (Instr.retCond cc).row = ⟨.control, 1, 2, 3⟩ := by cases cc <;> rfl
theorem row_rst (t : Fin 8) : (Instr.rst t).row = ⟨.control, 1, 4, 0⟩ := by fin_cases t <;> rfl
theorem row_shiftOp (op : ShiftOp) (o : Operand8) : (Instr.shiftOp op o).row = ⟨.alu, 2, formCycles o 2 4, 0⟩ := by
  rcases o with r | _
  · cases op <;> cases r <;> rfl
  · cases op <;> rfl
theorem row_bitOp (b : Fin 8) (o : Operand8) : (Instr.bitOp b o).row = ⟨.alu, 2, formCycles o 2 3, 0⟩ := by
  rcases o with r | _
  · fin_cases b <;> cases r <;> rfl
  · fin_cases b <;> rfl
theorem row_resOp (b : Fin 8) (o : Operand8) : (Instr.resOp b o).row = ⟨.alu, 2, formCycles o 2 4, 0⟩ := by
  rcases o with r | _
  · fin_cases b <;> cases r <;> rfl
  · fin_cases b <;> rfl
theorem row_setOp (b : Fin 8) (o : Operand8) : (Instr.setOp b o).row = ⟨.alu, 2, formCycles o 2 4, 0⟩ := by
  rcases o with r | _
  · fin_cases b <;> cases r <;> rfl
  · fin_cases b <;> rfl

/-! The stored addresses by form. -/

/-- Where a rewrite of the operand `o` stores. -/
def operandStores (o : Operand8) (s : State) : List Word :=
  match o with
  | .reg _ => []
  | .atHL => [s.hl]

/-- Where a push stores. -/
def pushStores (s : State) : List Word := [pushSp s.sp, pushSp s.sp + 1]

section
variable (s : State)

theorem storedAddresses_aluOp (op : AluOp) (o : Operand8) : storedAddresses (Instr.aluOp op o) s = [] := by
  rcases o with r | _
  · cases op <;> cases r <;> rfl
  · cases op <;> rfl
theorem storedAddresses_aluImm (op : AluOp) (n8 : Byte) : storedAddresses (Instr.aluImm op n8) s = [] := by
  cases op <;> rfl
theorem storedAddresses_incOp (o : Operand8) : storedAddresses (Instr.incOp o) s = operandStores o s := by
  rcases o with r | _
  · cases r <;> rfl
  · rfl
theorem storedAddresses_decOp (o : Operand8) : storedAddresses (Instr.decOp o) s = operandStores o s := by
  rcases o with r | _
  · cases r <;> rfl
  · rfl
theorem storedAddresses_ldRegReg (dst src : Reg8) : storedAddresses (Instr.ldRegReg dst src) s = [] := by
  cases dst <;> cases src <;> rfl
theorem storedAddresses_ldRegMem (dst : Reg8) : storedAddresses (Instr.ldRegMem dst) s = [] := by cases dst <;> rfl
theorem storedAddresses_ldMemReg (src : Reg8) : storedAddresses (Instr.ldMemReg src) s = [s.hl] := by cases src <;> rfl
theorem storedAddresses_ldImm (o : Operand8) (n8 : Byte) : storedAddresses (Instr.ldImm o n8) s = operandStores o s := by
  rcases o with r | _
  · cases r <;> rfl
  · rfl
theorem storedAddresses_ldPairImm (p : Reg16) (n16 : Word) : storedAddresses (Instr.ldPairImm p n16) s = [] := by
  cases p <;> rfl
theorem storedAddresses_addHL (p : Reg16) : storedAddresses (Instr.addHL p) s = [] := by cases p <;> rfl
theorem storedAddresses_incPair (p : Reg16) : storedAddresses (Instr.incPair p) s = [] := by cases p <;> rfl
theorem storedAddresses_decPair (p : Reg16) : storedAddresses (Instr.decPair p) s = [] := by cases p <;> rfl
theorem storedAddresses_ldAPtr (p : Pointer) : storedAddresses (Instr.ldAPtr p) s = [] := by cases p <;> rfl
theorem storedAddresses_ldPtrA (p : Pointer) : storedAddresses (Instr.ldPtrA p) s = [pointerAddr p s] := by cases p <;> rfl
theorem storedAddresses_pushOp (p : StackPair) : storedAddresses (Instr.pushOp p) s = pushStores s := by cases p <;> rfl
theorem storedAddresses_popOp (p : StackPair) : storedAddresses (Instr.popOp p) s = [] := by cases p <;> rfl
theorem storedAddresses_jrCond (cc : Cond) (e8 : Byte) : storedAddresses (Instr.jrCond cc e8) s = [] := by cases cc <;> rfl
theorem storedAddresses_jpCond (cc : Cond) (a16 : Word) : storedAddresses (Instr.jpCond cc a16) s = [] := by
  cases cc <;> rfl
theorem storedAddresses_callCond (cc : Cond) (a16 : Word) :
    storedAddresses (Instr.callCond cc a16) s = if condHolds cc s.regs.f then pushStores s else [] := by cases cc <;> rfl
theorem storedAddresses_retCond (cc : Cond) : storedAddresses (Instr.retCond cc) s = [] := by cases cc <;> rfl
theorem storedAddresses_rst (t : Fin 8) : storedAddresses (Instr.rst t) s = pushStores s := by fin_cases t <;> rfl
theorem storedAddresses_shiftOp (op : ShiftOp) (o : Operand8) :
    storedAddresses (Instr.shiftOp op o) s = operandStores o s := by
  rcases o with r | _
  · cases op <;> cases r <;> rfl
  · cases op <;> rfl
theorem storedAddresses_bitOp (b : Fin 8) (o : Operand8) : storedAddresses (Instr.bitOp b o) s = [] := by
  rcases o with r | _
  · fin_cases b <;> cases r <;> rfl
  · fin_cases b <;> rfl
theorem storedAddresses_resOp (b : Fin 8) (o : Operand8) : storedAddresses (Instr.resOp b o) s = operandStores o s := by
  rcases o with r | _
  · fin_cases b <;> cases r <;> rfl
  · fin_cases b <;> rfl
theorem storedAddresses_setOp (b : Fin 8) (o : Operand8) : storedAddresses (Instr.setOp b o) s = operandStores o s := by
  rcases o with r | _
  · fin_cases b <;> cases r <;> rfl
  · fin_cases b <;> rfl

end

/-! What an instruction that stores at given addresses may answer. -/

/-- From `s` to `t` only the cells of the addresses `as` may have changed, and `last_write` is the first of them, if any (R63, D10). -/
structure StoresOnly (s t : State) (as : List Word) : Prop where
  mem : ∀ k, (∀ a ∈ as, s.place a ≠ .mem k) → Memory.read t.mem k = Memory.read s.mem k
  ie : (∀ a ∈ as, s.place a ≠ .ieReg) → t.ie = s.ie
  iflag : (∀ a ∈ as, s.place a ≠ .ifReg) → t.iflag = s.iflag
  lastWrite : t.lastWrite = as.headD s.lastWrite

/-- The first unmapped address of `as` decides: its fault if there is one, a next state with only those cells changed if not. -/
def AnswersStores (s : State) (as : List Word) : Result → Prop
  | .next t => (∀ a ∈ as, s.place a ≠ .unmapped) ∧ (Memory.wf s.mem = true → StoresOnly s t as)
  | .fault f => ∃ a, (as.find? fun a => decide (s.place a = .unmapped)) = some a ∧ f = .unmappedWrite a
  | .refused _ => False

/-- `t` is as `s` but for what no store reaches. -/
structure NoStore (s t : State) : Prop where
  bus : SameBus s t
  lastWrite : t.lastWrite = s.lastWrite

section
variable {s s0 t : State} {a v : Word} {b : Byte} {g : State → State}

theorem StoresOnly.of_storedByte (hst : StoredByte s t a b) (hl : t.lastWrite = a) : StoresOnly s t [a] := by
  obtain ⟨_, hmem, hie, hif⟩ := hst
  refine ⟨fun k h => ?_, fun h => ?_, fun h => ?_, hl⟩
  · rw [hmem, if_neg (h a (by simp))]
  · rw [hie, if_neg (h a (by simp))]
  · rw [hif, if_neg (h a (by simp))]

theorem StoresOnly.of_storedWord (hst : StoredWord s t a v) (hl : t.lastWrite = a) : StoresOnly s t [a, a + 1] := by
  obtain ⟨_, hmem, hie, hif⟩ := hst
  refine ⟨fun k h => ?_, fun h => ?_, fun h => ?_, hl⟩
  · rw [hmem, if_neg (h (a + 1) (by simp)), if_neg (h a (by simp))]
  · rw [hie, if_neg (h (a + 1) (by simp)), if_neg (h a (by simp))]
  · rw [hif, if_neg (h (a + 1) (by simp)), if_neg (h a (by simp))]

theorem NoStore.answers (h : NoStore s t) : AnswersStores s [] (.next t) :=
  ⟨by simp, fun _ => ⟨fun k _ => by rw [h.bus.mem], fun _ => h.bus.ie, fun _ => h.bus.iflag, h.lastWrite⟩⟩

/-- One byte stored, and then no other store. -/
theorem memWrite8_answers (hb : SameBus s s0) (hg : ∀ t, NoStore t (g t)) :
    AnswersStores s [a] (mapNext (memWrite8 s0 a b) g) := by
  by_cases ha : s0.place a = .unmapped
  · rw [memWrite8_unmapped _ _ _ ha]
    exact ⟨a, by simp [← hb.place, ha], rfl⟩
  · rw [memWrite8_mapped _ _ _ ha]
    refine ⟨by simpa [← hb.place] using ha, fun hwf => StoresOnly.of_storedByte (b := b) ?_ (hg _).lastWrite⟩
    have hm : ByteMapped s0 a := ⟨hb.mem ▸ hwf, ha⟩
    exact hb.storedByte_before ((hg _).bus.storedByte_after (storedByte_poke hm b))

/-- A word stored, and then no other store. -/
theorem memWrite16_answersStores (hb : SameBus s s0) (hg : ∀ t, NoStore t (g t)) :
    AnswersStores s [a, a + 1] (mapNext (memWrite16 s0 a v) g) := by
  by_cases ha : s0.place a = .unmapped
  · rw [memWrite16_unmapped_low _ _ _ ha]
    exact ⟨a, by simp [← hb.place, ha], rfl⟩
  · by_cases ha' : s0.place (a + 1) = .unmapped
    · rw [memWrite16_unmapped_high _ _ _ ha ha']
      exact ⟨a + 1, by simp [← hb.place, ha]; exact ha', rfl⟩
    · rw [memWrite16_mapped _ _ _ ha ha']
      refine ⟨by simp [← hb.place, ha]; exact ha', fun hwf => StoresOnly.of_storedWord (v := v) ?_ (hg _).lastWrite⟩
      have hm : WordMapped s0 a := ⟨hb.mem ▸ hwf, ha, ha'⟩
      exact hb.storedWord_before ((hg _).bus.storedWord_after (storedWord_poke hm v))

theorem push_answersStores (hg : ∀ t, NoStore t (g t)) : AnswersStores s (pushStores s) (mapNext (push v s) g) :=
  memWrite16_answersStores ⟨rfl, rfl, rfl, rfl⟩ hg

theorem NoStore.trans {u : State} (h : NoStore s t) (h' : NoStore t u) : NoStore s u where
  bus := ⟨h'.bus.cells.trans h.bus.cells, h'.bus.mem.trans h.bus.mem, h'.bus.ie.trans h.bus.ie,
    h'.bus.iflag.trans h.bus.iflag⟩
  lastWrite := h'.lastWrite.trans h.lastWrite

theorem NoStore.of_eq (cells : t.cells = s.cells) (mem : t.mem = s.mem) (ie : t.ie = s.ie) (iflag : t.iflag = s.iflag)
    (lastWrite : t.lastWrite = s.lastWrite) : NoStore s t := ⟨⟨cells, mem, ie, iflag⟩, lastWrite⟩

theorem noStore_retire (len : Word) (cycles : Nat) (t : State) : NoStore t (retire len cycles t) := by
  apply NoStore.of_eq <;> rfl

theorem noStore_jumpTo (target : Word) (cycles : Nat) (t : State) : NoStore t (jumpTo target cycles t) := by
  apply NoStore.of_eq <;> rfl

theorem noStore_composed (zs ns hs cs : FlagSource) (len : Word) (cycles : Nat) (t : State) :
    NoStore t (retire len cycles (combineFlags zs ns hs cs t)) := by apply NoStore.of_eq <;> rfl

/-- A register or the byte at HL written with the result in `scratch`, and then no store. -/
theorem wr8_answersStores (o : Operand8) (x : AluResult) (hg : ∀ t, NoStore t (g t)) :
    AnswersStores s (operandStores o s) (mapNext (wr8 o b (s.setScratch x)) g) := by
  cases o with
  | reg r =>
    have h : NoStore s ((s.setScratch x).setReg r b) := by apply NoStore.of_eq <;> simp
    exact (h.trans (hg _)).answers
  | atHL => exact memWrite8_answers ⟨rfl, rfl, rfl, rfl⟩ hg

end

section
variable (s : State)

theorem aluMeaning_answersStores (op : AluOp) (src : State → Byte) (len : Word) (cycles : Nat) :
    AnswersStores s [] (aluMeaning op src len cycles s) := by
  cases op <;> exact NoStore.answers (by apply NoStore.of_eq <;> rfl)

theorem shiftMeaning_answersStores (op : ShiftOp) (o : Operand8) (cycles : Nat) :
    AnswersStores s (operandStores o s) (shiftMeaning op o cycles s) := by
  rw [shiftMeaning_eq]
  exact wr8_answersStores o _ (noStore_composed _ _ _ _ _ _)

theorem rewriteBit_answersStores (o : Operand8) (v : Byte) (cycles : Nat) :
    AnswersStores s (operandStores o s) (rewriteBit o v cycles s) := wr8_answersStores o _ (noStore_composed _ _ _ _ _ _)

theorem loadReg_answersStores (dst : Reg8) (value : State → Byte) (len : Word) (cycles : Nat) :
    AnswersStores s [] (loadReg dst value len cycles s) :=
  NoStore.answers (by apply NoStore.of_eq <;> simp)

theorem store8_answersStores (address : State → Word) (value : State → Byte) (len : Word) (cycles : Nat) :
    AnswersStores s [address s] (store8 address value len cycles s) :=
  memWrite8_answers ⟨rfl, rfl, rfl, rfl⟩ (noStore_retire len cycles)

theorem storeAPointer_answersStores (p : Pointer) : AnswersStores s [pointerAddr p s] (storeAPointer p s) :=
  memWrite8_answers ⟨rfl, rfl, rfl, rfl⟩ fun t => by apply NoStore.of_eq <;> simp

theorem jumpIf_answersStores (cc : Cond) (target : State → Word) (len : Word) (cycles xtra : Nat) :
    AnswersStores s [] (jumpIf cc target len cycles xtra s) := by
  unfold jumpIf
  split
  · exact (noStore_jumpTo _ _ s).answers
  · exact (noStore_retire _ _ s).answers

theorem call_answersStores (target : State → Word) (len : Word) (cycles : Nat) :
    AnswersStores s (pushStores s) (call target len cycles s) := push_answersStores fun t => noStore_jumpTo _ _ t

theorem callIf_answersStores (cc : Cond) (target : State → Word) (len : Word) (cycles xtra : Nat) :
    AnswersStores s (if condHolds cc s.regs.f then pushStores s else []) (callIf cc target len cycles xtra s) := by
  unfold callIf
  split
  · exact call_answersStores s _ _ _
  · exact (noStore_retire _ _ s).answers

theorem return_answersStores (cycles : Nat) : AnswersStores s [] (.next (returnFromCall cycles s)) :=
  NoStore.answers (by apply NoStore.of_eq <;> rfl)

theorem returnIf_answersStores (cc : Cond) (len : Word) (cycles xtra : Nat) :
    AnswersStores s [] (returnIf cc len cycles xtra s) := by
  unfold returnIf
  split
  · exact return_answersStores s _
  · exact (noStore_retire _ _ s).answers

/-- Every instruction stores to its stored addresses in order, and nowhere else. -/
theorem exec_answersStores (i : Instr) : AnswersStores s (storedAddresses i s) (exec i s) := by
  induction i using Instr.by_form with
  | aluOp op o => rw [storedAddresses_aluOp, exec_aluOp]; exact aluMeaning_answersStores s _ _ _ _
  | aluImm op n8 => rw [storedAddresses_aluImm, exec_aluImm]; exact aluMeaning_answersStores s _ _ _ _
  | incOp o => rw [storedAddresses_incOp, exec_incOp]; exact wr8_answersStores o _ (noStore_composed _ _ _ _ _ _)
  | decOp o => rw [storedAddresses_decOp, exec_decOp]; exact wr8_answersStores o _ (noStore_composed _ _ _ _ _ _)
  | ldRegReg dst src => rw [storedAddresses_ldRegReg, exec_ldRegReg]; exact loadReg_answersStores s _ _ _ _
  | ldRegMem dst => rw [storedAddresses_ldRegMem, exec_ldRegMem]; exact loadReg_answersStores s _ _ _ _
  | ldMemReg src => rw [storedAddresses_ldMemReg, exec_ldMemReg]; exact store8_answersStores s _ _ _ _
  | ldImm o n8 =>
    rw [storedAddresses_ldImm]
    cases o with
    | reg r => rw [exec_ldImm_reg]; exact loadReg_answersStores s _ _ _ _
    | atHL => rw [exec_ldImm_atHL]; exact store8_answersStores s _ _ _ _
  | ldPairImm p n16 =>
    rw [storedAddresses_ldPairImm, exec_ldPairImm]; exact NoStore.answers (by apply NoStore.of_eq <;> simp)
  | addHL p => rw [storedAddresses_addHL, exec_addHL]; exact NoStore.answers (by apply NoStore.of_eq <;> rfl)
  | incPair p => rw [storedAddresses_incPair, exec_incPair]; exact NoStore.answers (by apply NoStore.of_eq <;> simp)
  | decPair p => rw [storedAddresses_decPair, exec_decPair]; exact NoStore.answers (by apply NoStore.of_eq <;> simp)
  | ldAPtr p => rw [storedAddresses_ldAPtr, exec_ldAPtr]; exact NoStore.answers (by apply NoStore.of_eq <;> simp)
  | ldPtrA p => rw [storedAddresses_ldPtrA, exec_ldPtrA]; exact storeAPointer_answersStores s p
  | pushOp p => rw [storedAddresses_pushOp, exec_pushOp]; exact push_answersStores (noStore_retire _ _)
  | popOp p => rw [storedAddresses_popOp, exec_popOp]; exact NoStore.answers (by apply NoStore.of_eq <;> simp)
  | jrCond cc e8 => rw [storedAddresses_jrCond, exec_jrCond]; exact jumpIf_answersStores s _ _ _ _ _
  | jpCond cc a16 => rw [storedAddresses_jpCond, exec_jpCond]; exact jumpIf_answersStores s _ _ _ _ _
  | callCond cc a16 => rw [storedAddresses_callCond, exec_callCond]; exact callIf_answersStores s _ _ _ _ _
  | retCond cc => rw [storedAddresses_retCond, exec_retCond]; exact returnIf_answersStores s _ _ _ _
  | rst t => rw [storedAddresses_rst, exec_rst]; exact call_answersStores s _ _ _
  | shiftOp op o => rw [storedAddresses_shiftOp, exec_shiftOp]; exact shiftMeaning_answersStores s _ _ _
  | bitOp b o => rw [storedAddresses_bitOp, exec_bitOp]; exact NoStore.answers (by apply NoStore.of_eq <;> rfl)
  | resOp b o => rw [storedAddresses_resOp, exec_resOp]; exact rewriteBit_answersStores s _ _ _
  | setOp b o => rw [storedAddresses_setOp, exec_setOp]; exact rewriteBit_answersStores s _ _ _
  | ldAtA16SP a16 => exact memWrite16_answersStores (a := a16) ⟨rfl, rfl, rfl, rfl⟩ (noStore_retire 3 5)
  | callA16 a16 => exact call_answersStores s _ _ _
  | ldhAtA8A a8 => rw [exec_ldhAtA8A]; exact store8_answersStores s _ _ _ _
  | ldAtCA => rw [exec_ldAtCA]; exact store8_answersStores s _ _ _ _
  | ldAtA16A a16 => rw [exec_ldAtA16A]; exact store8_answersStores s _ _ _ _
  | _ => exact NoStore.answers (by apply NoStore.of_eq <;> rfl)

end

/-- Settles O25: the first unmapped stored address is the one the outcome names. -/
theorem execFaultsExactlyOnUnmappedStore : Obligations.ExecFaultsExactlyOnUnmappedStore := by
  intro i s
  have h := exec_answersStores s i
  cases hr : exec i s with
  | next t =>
    rw [hr] at h
    obtain ⟨hmapped, _⟩ := h
    have hnone : firstUnmapped i s = none := List.find?_eq_none.2 fun a ha => by simpa using hmapped a ha
    exact ⟨fun a ha => by simp [hnone] at ha, fun _ => ⟨t, rfl⟩⟩
  | fault f =>
    rw [hr] at h
    obtain ⟨b, hb, rfl⟩ := h
    have hsome : firstUnmapped i s = some b := hb
    rw [hsome]
    exact ⟨fun a ha => by cases ha; rfl, fun ha => by cases ha⟩
  | refused e => rw [hr] at h; exact h.elim

/-- A byte read depends on its cell alone, so one no store reaches reads as before. -/
theorem StoresOnly.busRead {s t : State} {as : List Word} (h : StoresOnly s t as) (hc : t.cells = s.cells) {b : Word}
    (hb : ∀ a ∈ as, s.place b ≠ s.place a) : busRead t b = busRead s b := by
  unfold Machine.busRead
  rw [place_congr hc]
  cases hp : s.place b with
  | unmapped => rfl
  | ieReg => exact h.ie fun a ha hpa => hb a ha (hp.trans hpa.symm)
  | ifReg => exact h.iflag fun a ha hpa => hb a ha (hp.trans hpa.symm)
  | mem k => exact h.mem k fun a ha hpa => hb a ha (hp.trans hpa.symm)

/-- Settles O26: what the stores leave, and what the rest of an instruction never writes. -/
theorem execFrame : Obligations.ExecFrame := by
  intro i s t hwf ht
  have hstores := exec_answersStores s i
  have houtcome := exec_outcome i s
  rw [ht] at hstores houtcome
  have hs := hstores.2 hwf
  have hk := houtcome.keeps
  exact ⟨fun b hb => hs.busRead hk.cells hb, hs.mem, hs.ie, hs.iflag, hs.lastWrite, hk.counter, hk.tapPrev, hk.cells,
    hk.components, hk.blocks, hk.params, hk.env, hk.bootListener⟩

end Sys2Proof.Machine

/-! Every instruction at once: flags, IME, HALT, length and cost (spec/60_exceptions.md R316, R321; spec/10_state.md R28, R30, R39). -/

namespace Sys2Proof.Machine

open Sys2Proof.Terms

/-! Control transfers (R280 to R292). -/

/-- Whether an instruction transfers control with the flags `f`: see `transfers_of`. -/
def transfers (f : Flags) : Instr → Bool
  | .jpA16 _ | .jpHL | .jrE8 _ | .callA16 _ | .ret | .reti => true
  | .rst00 | .rst08 | .rst10 | .rst18 | .rst20 | .rst28 | .rst30 | .rst38 => true
  | .jpNZA16 _ | .jrNZE8 _ | .callNZA16 _ | .retNZ => condHolds .nz f
  | .jpZA16 _ | .jrZE8 _ | .callZA16 _ | .retZ => condHolds .z f
  | .jpNCA16 _ | .jrNCE8 _ | .callNCA16 _ | .retNC => condHolds .nc f
  | .jpCA16 _ | .jrCE8 _ | .callCA16 _ | .retC => condHolds .c f
  | _ => false

theorem transfers_of {i : Instr} {f : Flags} (h : Transfers i f) : transfers f i = true := by
  rcases h with ⟨a16, rfl⟩ | rfl | ⟨e8, rfl⟩ | ⟨a16, rfl⟩ | ⟨n, rfl⟩ | rfl | rfl | ⟨cc, hcc, h⟩
  · rfl
  · rfl
  · rfl
  · rfl
  · fin_cases n <;> rfl
  · rfl
  · rfl
  · rcases h with ⟨a16, rfl⟩ | ⟨e8, rfl⟩ | ⟨a16, rfl⟩ | rfl <;> cases cc <;> exact hcc

theorem not_transfers {i : Instr} {f : Flags} (h : transfers f i = false) : ¬ Transfers i f :=
  fun ht => Bool.false_ne_true (h.symm.trans (transfers_of ht))

theorem family_of_transfers {i : Instr} {f : Flags} (h : Transfers i f) : i.row.family = .control := by
  rcases h with ⟨a16, rfl⟩ | rfl | ⟨e8, rfl⟩ | ⟨a16, rfl⟩ | ⟨n, rfl⟩ | rfl | rfl | ⟨cc, _, h⟩
  · rfl
  · rfl
  · rfl
  · rfl
  · rw [row_rst]
  · rfl
  · rfl
  · rcases h with ⟨a16, rfl⟩ | ⟨e8, rfl⟩ | ⟨a16, rfl⟩ | rfl
    · rw [row_jpCond]
    · rw [row_jrCond]
    · rw [row_callCond]
    · rw [row_retCond]

/-! What an instruction does to the status. -/

/-- `t` has the flags, `pc`, `idle`, IME and HALT of `s`. -/
structure SameStatus (s t : State) : Prop where
  flags : t.regs.f = s.regs.f
  pc : t.pc = s.pc
  idle : t.idle = s.idle
  ime : t.ime = s.ime
  halt : t.halt = s.halt

/-- `t` is past `len` bytes of `s` at the cost of `cycles`, with IME and HALT as they were. -/
structure Passes (s : State) (len : Word) (cycles : Nat) (t : State) : Prop where
  pc : t.pc = s.pc + len
  idle : t.idle = s.idle + (cycles - 1)
  ime : t.ime = s.ime
  halt : t.halt = s.halt

/-- `Passes` with the flags as they were. -/
structure Moves (s : State) (len : Word) (cycles : Nat) (t : State) : Prop extends Passes s len cycles t where
  flags : t.regs.f = s.regs.f

/-- The next state of an outcome, if it has one, meets `P`. -/
def Ends (P : State → Prop) : Result → Prop
  | .next t => P t
  | _ => True

theorem Ends.mono {P Q : State → Prop} {r : Result} (h : Ends P r) (hPQ : ∀ t, P t → Q t) : Ends Q r := by
  cases r with
  | next t => exact hPQ t h
  | fault f => trivial
  | refused e => trivial

section
variable {s u : State} {P : State → Prop} {g : State → State}

theorem ends_memWrite8 {a : Word} {b : Byte} (hg : ∀ t, SameStatus u t → P (g t)) :
    Ends P (mapNext (memWrite8 u a b) g) := by
  by_cases ha : u.place a = .unmapped
  · rw [memWrite8_unmapped _ _ _ ha]; trivial
  · rw [memWrite8_mapped _ _ _ ha]
    exact hg _ (by constructor <;> simp)

theorem ends_memWrite16 {a v : Word} (hg : ∀ t, SameStatus u t → P (g t)) : Ends P (mapNext (memWrite16 u a v) g) := by
  by_cases ha : u.place a = .unmapped
  · rw [memWrite16_unmapped_low _ _ _ ha]; trivial
  · by_cases ha' : u.place (a + 1) = .unmapped
    · rw [memWrite16_unmapped_high _ _ _ ha ha']; trivial
    · rw [memWrite16_mapped _ _ _ ha ha']
      exact hg _ (by constructor <;> simp)

theorem ends_push {v : Word} (hg : ∀ t, SameStatus s t → P (g t)) : Ends P (mapNext (push v s) g) :=
  ends_memWrite16 fun t ht => hg t ⟨ht.flags, ht.pc, ht.idle, ht.ime, ht.halt⟩

theorem ends_wr8 {o : Operand8} {b : Byte} (hg : ∀ t, SameStatus u t → P (g t)) : Ends P (mapNext (wr8 o b u) g) := by
  cases o with
  | reg r => exact hg _ (by constructor <;> simp)
  | atHL => exact ends_memWrite8 hg

theorem SameStatus.retire (h : SameStatus s u) (len : Word) (cycles : Nat) : Moves s len cycles (retire len cycles u) :=
  ⟨⟨by simp [h.pc], by simp [h.idle], h.ime, h.halt⟩, h.flags⟩

/-- An operand rewritten with the result in `scratch`, and the flags composed. -/
theorem ends_rewrite (o : Operand8) (b : Byte) (x : AluResult) (zs ns hs cs : FlagSource) (len : Word) (cycles : Nat) :
    Ends (Passes s len cycles)
      (mapNext (wr8 o b (s.setScratch x)) fun t => retire len cycles (combineFlags zs ns hs cs t)) :=
  ends_wr8 fun t ht => ⟨by simp [ht.pc], by simp [ht.idle], ht.ime, ht.halt⟩

end

section
variable (s : State)

theorem aluMeaning_passes (op : AluOp) (src : State → Byte) (len : Word) (cycles : Nat) :
    Ends (Passes s len cycles) (aluMeaning op src len cycles s) := by
  cases op <;> exact ⟨rfl, rfl, rfl, rfl⟩

theorem shiftMeaning_passes (op : ShiftOp) (o : Operand8) (cycles : Nat) :
    Ends (Passes s 2 cycles) (shiftMeaning op o cycles s) := by
  rw [shiftMeaning_eq]
  exact ends_rewrite _ _ _ _ _ _ _ _ _

theorem rewriteBit_passes (o : Operand8) (v : Byte) (cycles : Nat) : Ends (Passes s 2 cycles) (rewriteBit o v cycles s) :=
  ends_rewrite _ _ _ _ _ _ _ _ _

theorem loadReg_moves (dst : Reg8) (value : State → Byte) (len : Word) (cycles : Nat) :
    Ends (Moves s len cycles) (loadReg dst value len cycles s) :=
  SameStatus.retire (by constructor <;> simp) len cycles

theorem store8_moves (address : State → Word) (value : State → Byte) (len : Word) (cycles : Nat) :
    Ends (Moves s len cycles) (store8 address value len cycles s) :=
  ends_memWrite8 fun _ ht => ht.retire len cycles

theorem storeAPointer_moves (p : Pointer) : Ends (Moves s 1 2) (storeAPointer p s) :=
  ends_memWrite8 fun t ht => SameStatus.retire (by
    cases p <;> exact ⟨ht.flags, ht.pc, ht.idle, ht.ime, ht.halt⟩) 1 2

/-- R263: POP AF alone replaces the flags. -/
theorem popPair_passes (p : StackPair) :
    Ends (fun t => Passes s 1 3 t ∧ (p ≠ .af → t.regs.f = s.regs.f)) (popPair p s) := by
  refine ⟨⟨by simp, by simp, by simp, by simp⟩, fun hp => ?_⟩
  cases p with
  | af => exact absurd rfl hp
  | _ => rfl

/-! The status after an instruction, by its row. -/

/-- What O27 and O28 say of an instruction's next state. -/
structure Status (i : Instr) (s t : State) : Prop where
  flags : i.row.family ≠ .alu → i ≠ .popAF → t.regs.f = s.regs.f
  ime : t.ime = if i = .di then false else if i = .ei ∨ i = .reti then true else s.ime
  halt : t.halt = if i = .halt then true else s.halt
  falls : ¬ Transfers i s.regs.f → t.pc = s.pc + BitVec.ofNat 16 i.row.bytes ∧ t.idle = s.idle + (i.row.cycles - 1)
  jumps : Transfers i s.regs.f → t.idle = s.idle + (i.row.cycles - 1 + i.row.xtra)

end

section
variable {i : Instr} {s t : State} {bytes cycles xtra : Nat}

/-- DI, EI, RETI and HALT are of the control family. -/
theorem ime_halt_of_not_control (h : i.row.family ≠ .control) :
    (if i = .di then false else if i = .ei ∨ i = .reti then true else s.ime) = s.ime ∧
      (if i = .halt then true else s.halt) = s.halt := by
  have hdi : i ≠ .di := by rintro rfl; exact h rfl
  have hei : i ≠ .ei := by rintro rfl; exact h rfl
  have hreti : i ≠ .reti := by rintro rfl; exact h rfl
  have hhalt : i ≠ .halt := by rintro rfl; exact h rfl
  simp [hdi, hei, hreti, hhalt]

theorem Status.of_alu (hrow : i.row = ⟨.alu, bytes, cycles, xtra⟩) (h : Passes s (BitVec.ofNat 16 bytes) cycles t) :
    Status i s t := by
  have hfam : i.row.family = .alu := by rw [hrow]
  obtain ⟨hime, hhalt⟩ := ime_halt_of_not_control (s := s) (by rw [hfam]; decide)
  refine ⟨fun hne => absurd hfam hne, h.ime.trans hime.symm, h.halt.trans hhalt.symm, fun _ => ?_, fun ht => ?_⟩
  · rw [hrow]
    exact ⟨h.pc, h.idle⟩
  · have := hfam.symm.trans (family_of_transfers ht)
    cases this

theorem Status.of_load (hrow : i.row = ⟨.load, bytes, cycles, xtra⟩) (h : Passes s (BitVec.ofNat 16 bytes) cycles t)
    (hflags : i ≠ .popAF → t.regs.f = s.regs.f) : Status i s t := by
  have hfam : i.row.family = .load := by rw [hrow]
  obtain ⟨hime, hhalt⟩ := ime_halt_of_not_control (s := s) (by rw [hfam]; decide)
  refine ⟨fun _ => hflags, h.ime.trans hime.symm, h.halt.trans hhalt.symm, fun _ => ?_, fun ht => ?_⟩
  · rw [hrow]
    exact ⟨h.pc, h.idle⟩
  · have := hfam.symm.trans (family_of_transfers ht)
    cases this

theorem Status.of_moves (hrow : i.row = ⟨.load, bytes, cycles, xtra⟩) (h : Moves s (BitVec.ofNat 16 bytes) cycles t) :
    Status i s t := Status.of_load hrow h.toPasses fun _ => h.flags

end

/-! Control flow. -/

/-- From `s` to `t` control is transferred iff `taken`, at the base cost and the extra cost, and else falls through at the base cost
(R285); flags, IME and HALT are as they were. -/
structure Branches (s : State) (taken : Bool) (len : Word) (cycles xtra : Nat) (t : State) : Prop where
  flags : t.regs.f = s.regs.f
  ime : t.ime = s.ime
  halt : t.halt = s.halt
  falls : taken = false → t.pc = s.pc + len ∧ t.idle = s.idle + (cycles - 1)
  jumps : taken = true → t.idle = s.idle + (cycles - 1 + xtra)

section
variable (s : State)

theorem SameStatus.jumpTo {s u : State} (h : SameStatus s u) (target len : Word) (cycles : Nat) {xtra : Nat} (hc : 1 ≤ cycles) :
    Branches s true len cycles xtra (jumpTo target (cycles + xtra) u) :=
  ⟨h.flags, h.ime, h.halt, nofun, fun _ => by rw [jumpTo_idle, h.idle]; omega⟩

theorem Moves.branches {s t : State} {len : Word} {cycles : Nat} (h : Moves s len cycles t) (xtra : Nat) :
    Branches s false len cycles xtra t :=
  ⟨h.flags, h.ime, h.halt, fun _ => ⟨h.pc, h.idle⟩, nofun⟩

theorem SameStatus.refl : SameStatus s s := ⟨rfl, rfl, rfl, rfl, rfl⟩

theorem jump_branches (target : State → Word) (len : Word) {cycles : Nat} (hc : 1 ≤ cycles) :
    Ends (Branches s true len cycles 0) (jump target cycles s) := (SameStatus.refl s).jumpTo _ len cycles hc

theorem call_branches (target : State → Word) (len : Word) (cycles xtra : Nat) (hc : 1 ≤ cycles) :
    Ends (Branches s true len cycles xtra) (call target len (cycles + xtra) s) :=
  ends_push fun _ ht => ht.jumpTo _ len cycles hc

theorem return_branches (len : Word) (cycles xtra : Nat) (hc : 1 ≤ cycles) :
    Branches s true len cycles xtra (returnFromCall (cycles + xtra) s) :=
  SameStatus.jumpTo (s := s) (u := dropWord s) ⟨rfl, rfl, rfl, rfl, rfl⟩ _ len cycles hc

theorem jumpIf_branches (cc : Cond) (target : State → Word) (len : Word) (cycles xtra : Nat) (hc : 1 ≤ cycles) :
    Ends (Branches s (condHolds cc s.regs.f) len cycles xtra) (jumpIf cc target len cycles xtra s) := by
  unfold jumpIf
  split
  · next h => rw [h]; exact (SameStatus.refl s).jumpTo _ len cycles hc
  · next h => rw [Bool.eq_false_iff.2 h]; exact ((SameStatus.refl s).retire len cycles).branches xtra

theorem callIf_branches (cc : Cond) (target : State → Word) (len : Word) (cycles xtra : Nat) (hc : 1 ≤ cycles) :
    Ends (Branches s (condHolds cc s.regs.f) len cycles xtra) (callIf cc target len cycles xtra s) := by
  unfold callIf
  split
  · next h => rw [h]; exact call_branches s target len cycles xtra hc
  · next h => rw [Bool.eq_false_iff.2 h]; exact ((SameStatus.refl s).retire len cycles).branches xtra

theorem returnIf_branches (cc : Cond) (len : Word) (cycles xtra : Nat) (hc : 1 ≤ cycles) :
    Ends (Branches s (condHolds cc s.regs.f) len cycles xtra) (returnIf cc len cycles xtra s) := by
  unfold returnIf
  split
  · next h => rw [h]; exact return_branches s len cycles xtra hc
  · next h => rw [Bool.eq_false_iff.2 h]; exact ((SameStatus.refl s).retire len cycles).branches xtra

end

/-- A control instruction other than DI, EI, RETI and HALT, by its row and whether it transfers. -/
theorem Status.of_branches {i : Instr} {s t : State} {bytes cycles xtra : Nat} {taken : Bool}
    (hrow : i.row = ⟨.control, bytes, cycles, xtra⟩) (h : Branches s taken (BitVec.ofNat 16 bytes) cycles xtra t)
    (hof : transfers s.regs.f i = taken) (hto : taken = true → Transfers i s.regs.f)
    (hne : i ∉ [.di, .ei, .reti, .halt]) : Status i s t := by
  simp only [List.mem_cons, List.not_mem_nil, or_false, not_or] at hne
  obtain ⟨hdi, hei, hreti, hhalt⟩ := hne
  refine ⟨fun _ _ => h.flags, by simp [hdi, hei, hreti, h.ime], by simp [hhalt, h.halt], fun ht => ?_, fun ht => ?_⟩
  · rw [hrow]
    exact h.falls (Bool.eq_false_iff.2 (mt hto ht))
  · rw [hrow]
    exact h.jumps (hof.symm.trans (transfers_of ht))

/-- A conditional form transfers exactly when its condition holds (R285). -/
theorem Status.of_condition {i : Instr} {s t : State} {bytes cycles xtra : Nat} {cc : Cond}
    (hi : (∃ a16, i = Instr.jpCond cc a16) ∨ (∃ e8, i = Instr.jrCond cc e8) ∨ (∃ a16, i = Instr.callCond cc a16) ∨ i = Instr.retCond cc)
    (hrow : i.row = ⟨.control, bytes, cycles, xtra⟩)
    (h : Branches s (condHolds cc s.regs.f) (BitVec.ofNat 16 bytes) cycles xtra t) : Status i s t := by
  refine Status.of_branches hrow h ?_ (fun hcc => .inr (.inr (.inr (.inr (.inr (.inr (.inr ⟨cc, hcc, hi⟩))))))) ?_
  · rcases hi with ⟨a16, rfl⟩ | ⟨e8, rfl⟩ | ⟨a16, rfl⟩ | rfl <;> cases cc <;> rfl
  · rcases hi with ⟨a16, rfl⟩ | ⟨e8, rfl⟩ | ⟨a16, rfl⟩ | rfl <;> cases cc <;> nofun

/-- Every instruction's next state, by form. -/
theorem exec_status (i : Instr) (s : State) : Ends (Status i s) (exec i s) := by
  have hs := SameStatus.refl s
  induction i using Instr.by_form with
  | aluOp op o => rw [exec_aluOp]; exact (aluMeaning_passes s _ _ _ _).mono fun _ => Status.of_alu (row_aluOp op o)
  | aluImm op n8 => rw [exec_aluImm]; exact (aluMeaning_passes s _ _ _ _).mono fun _ => Status.of_alu (row_aluImm op n8)
  | incOp o => rw [exec_incOp]; exact (ends_rewrite _ _ _ _ _ _ _ _ _).mono fun _ => Status.of_alu (row_incOp o)
  | decOp o => rw [exec_decOp]; exact (ends_rewrite _ _ _ _ _ _ _ _ _).mono fun _ => Status.of_alu (row_decOp o)
  | ldRegReg dst src => rw [exec_ldRegReg]; exact (loadReg_moves s _ _ _ _).mono fun _ => Status.of_moves (row_ldRegReg dst src)
  | ldRegMem dst => rw [exec_ldRegMem]; exact (loadReg_moves s _ _ _ _).mono fun _ => Status.of_moves (row_ldRegMem dst)
  | ldMemReg src => rw [exec_ldMemReg]; exact (store8_moves s _ _ _ _).mono fun _ => Status.of_moves (row_ldMemReg src)
  | ldImm o n8 =>
    cases o with
    | reg r => rw [exec_ldImm_reg]; exact (loadReg_moves s _ _ _ _).mono fun _ => Status.of_moves (row_ldImm_reg r n8)
    | atHL => rw [exec_ldImm_atHL]; exact (store8_moves s _ _ _ _).mono fun _ => Status.of_moves rfl
  | ldPairImm p n16 =>
    rw [exec_ldPairImm]
    exact Status.of_moves (row_ldPairImm p n16) (SameStatus.retire (by cases p <;> constructor <;> rfl) 3 3)
  | addHL p => rw [exec_addHL]; exact Status.of_alu (row_addHL p) ⟨rfl, rfl, rfl, rfl⟩
  | incPair p => rw [exec_incPair]; exact Status.of_alu (row_incPair p) ⟨by simp, by simp, by simp, by simp⟩
  | decPair p => rw [exec_decPair]; exact Status.of_alu (row_decPair p) ⟨by simp, by simp, by simp, by simp⟩
  | ldAPtr p =>
    rw [exec_ldAPtr]
    exact Status.of_moves (row_ldAPtr p) (SameStatus.retire (by cases p <;> constructor <;> rfl) 1 2)
  | ldPtrA p => rw [exec_ldPtrA]; exact (storeAPointer_moves s p).mono fun _ => Status.of_moves (row_ldPtrA p)
  | pushOp p =>
    rw [exec_pushOp]
    exact Ends.mono (ends_push fun t ht => ht.retire 1 4) fun _ => Status.of_moves (row_pushOp p)
  | popOp p =>
    rw [exec_popOp]
    refine (popPair_passes s p).mono fun t ⟨hpass, hflags⟩ => Status.of_load (row_popOp p) hpass fun hi => hflags ?_
    rintro rfl
    exact hi rfl
  | jrCond cc e8 =>
    rw [exec_jrCond]
    exact (jumpIf_branches s _ _ _ _ _ (by decide)).mono fun _ => Status.of_condition (.inr (.inl ⟨e8, rfl⟩)) (row_jrCond cc e8)
  | jpCond cc a16 =>
    rw [exec_jpCond]
    exact (jumpIf_branches s _ _ _ _ _ (by decide)).mono fun _ => Status.of_condition (.inl ⟨a16, rfl⟩) (row_jpCond cc a16)
  | callCond cc a16 =>
    rw [exec_callCond]
    exact (callIf_branches s _ _ _ _ _ (by decide)).mono fun _ =>
      Status.of_condition (.inr (.inr (.inl ⟨a16, rfl⟩))) (row_callCond cc a16)
  | retCond cc =>
    rw [exec_retCond]
    exact (returnIf_branches s _ _ _ _ (by decide)).mono fun _ => Status.of_condition (.inr (.inr (.inr rfl))) (row_retCond cc)
  | rst t =>
    rw [exec_rst]
    refine (call_branches s _ 1 4 0 (by decide)).mono fun _ h => Status.of_branches (row_rst t) h ?_ (fun _ => ?_) ?_
    · fin_cases t <;> rfl
    · exact .inr (.inr (.inr (.inr (.inl ⟨t, rfl⟩))))
    · fin_cases t <;> decide
  | shiftOp op o => rw [exec_shiftOp]; exact (shiftMeaning_passes s _ _ _).mono fun _ => Status.of_alu (row_shiftOp op o)
  | bitOp b o => rw [exec_bitOp]; exact Status.of_alu (row_bitOp b o) ⟨rfl, rfl, rfl, rfl⟩
  | resOp b o => rw [exec_resOp]; exact (rewriteBit_passes s _ _ _).mono fun _ => Status.of_alu (row_resOp b o)
  | setOp b o => rw [exec_setOp]; exact (rewriteBit_passes s _ _ _).mono fun _ => Status.of_alu (row_setOp b o)
  | nop => exact Status.of_branches rfl ((hs.retire 1 1).branches 0) rfl nofun (by decide)
  | stop => exact Status.of_branches rfl ((hs.retire 2 1).branches 0) rfl nofun (by decide)
  | halt => exact ⟨fun _ _ => rfl, rfl, rfl, fun _ => ⟨rfl, rfl⟩, fun h => absurd h (not_transfers rfl)⟩
  | di => exact ⟨fun _ _ => rfl, rfl, rfl, fun _ => ⟨rfl, rfl⟩, fun h => absurd h (not_transfers rfl)⟩
  | ei => exact ⟨fun _ _ => rfl, rfl, rfl, fun _ => ⟨rfl, rfl⟩, fun h => absurd h (not_transfers rfl)⟩
  | reti =>
    exact ⟨fun _ _ => rfl, rfl, rfl, fun h => absurd (.inr (.inr (.inr (.inr (.inr (.inr (.inl rfl))))))) h, fun _ => rfl⟩
  | rlca => exact Status.of_alu rfl ⟨rfl, rfl, rfl, rfl⟩
  | rrca => exact Status.of_alu rfl ⟨rfl, rfl, rfl, rfl⟩
  | rla => exact Status.of_alu rfl ⟨rfl, rfl, rfl, rfl⟩
  | rra => exact Status.of_alu rfl ⟨rfl, rfl, rfl, rfl⟩
  | daa => exact Status.of_alu rfl ⟨rfl, rfl, rfl, rfl⟩
  | cpl => exact Status.of_alu rfl ⟨rfl, rfl, rfl, rfl⟩
  | scf => exact Status.of_alu rfl ⟨rfl, rfl, rfl, rfl⟩
  | ccf => exact Status.of_alu rfl ⟨rfl, rfl, rfl, rfl⟩
  | ldAtA16SP a16 =>
    rw [exec_ldAtA16SP]
    exact Ends.mono (ends_memWrite16 fun _ ht => ht.retire 3 5) fun _ => Status.of_moves rfl
  | jrE8 e8 =>
    rw [exec_jrE8]
    exact (jump_branches s _ 2 (by decide)).mono fun _ h =>
      Status.of_branches rfl h rfl (fun _ => .inr (.inr (.inl ⟨e8, rfl⟩))) nofun
  | jpA16 a16 =>
    rw [exec_jpA16]
    exact (jump_branches s _ 3 (by decide)).mono fun _ h => Status.of_branches rfl h rfl (fun _ => .inl ⟨a16, rfl⟩) nofun
  | jpHL =>
    rw [exec_jpHL]
    exact (jump_branches s _ 1 (by decide)).mono fun _ h => Status.of_branches rfl h rfl (fun _ => .inr (.inl rfl)) nofun
  | callA16 a16 =>
    rw [exec_callA16]
    exact (call_branches s _ 3 6 0 (by decide)).mono fun _ h =>
      Status.of_branches rfl h rfl (fun _ => .inr (.inr (.inr (.inl ⟨a16, rfl⟩)))) nofun
  | ret =>
    rw [exec_ret]
    exact Status.of_branches rfl (return_branches s 1 4 0 (by decide)) rfl
      (fun _ => .inr (.inr (.inr (.inr (.inr (.inl rfl)))))) nofun
  | ldhAtA8A a8 => rw [exec_ldhAtA8A]; exact (store8_moves s _ _ _ _).mono fun _ => Status.of_moves rfl
  | ldAtCA => rw [exec_ldAtCA]; exact (store8_moves s _ _ _ _).mono fun _ => Status.of_moves rfl
  | ldAtA16A a16 => rw [exec_ldAtA16A]; exact (store8_moves s _ _ _ _).mono fun _ => Status.of_moves rfl
  | ldhAAtA8 a8 => rw [exec_ldhAAtA8]; exact (loadReg_moves s _ _ _ _).mono fun _ => Status.of_moves rfl
  | ldAAtC => rw [exec_ldAAtC]; exact (loadReg_moves s _ _ _ _).mono fun _ => Status.of_moves rfl
  | ldAAtA16 a16 => rw [exec_ldAAtA16]; exact (loadReg_moves s _ _ _ _).mono fun _ => Status.of_moves rfl
  | addSPE8 e8 => exact Status.of_alu rfl ⟨rfl, rfl, rfl, rfl⟩
  | ldHLSPE8 e8 => exact Status.of_alu rfl ⟨rfl, rfl, rfl, rfl⟩
  | ldSPHL => exact Status.of_moves rfl ⟨⟨rfl, rfl, rfl, rfl⟩, rfl⟩

/-- Settles O27: the flags, IME and HALT of the status after an instruction. -/
theorem statusFrame : Obligations.StatusFrame := by
  intro i s t ht
  have h := exec_status i s
  rw [ht] at h
  exact ⟨h.flags, h.ime, h.halt⟩

/-- Settles O28: falling through or transferring, by the instruction's row. -/
theorem lengthAndCost : Obligations.LengthAndCost := by
  intro i s t ht
  have h := exec_status i s
  rw [ht] at h
  exact ⟨h.falls, fun hi => ⟨family_of_transfers hi, h.jumps hi⟩⟩

end Sys2Proof.Machine

/-! The cell map: plugging, unplugging, attaching the CPU, the boot ROM and the map of reset (spec/20_memory.md, spec/70_reset_and_hazards.md). -/

namespace Sys2Proof.Machine

open Sys2Proof.Terms

/-! The map with a new stretch in front. -/

/-- A new stretch of a block decides its own addresses and leaves the rest. -/
theorem place_of_mem_stretch {s t : State} {first last : Word} {id offset : Nat}
    (h : t.cells = ⟨first, last, .mem id offset⟩ :: s.cells) (a : Word) :
    t.place a =
      if first.toNat ≤ a.toNat ∧ a.toNat ≤ last.toNat then .mem (id + (offset + (a.toNat - first.toNat))) else s.place a := by
  simp [State.place, h, placeIn, Segment.holds, Segment.placeOf]

/-- A stretch of one address holds that address alone. -/
theorem holds_single (a b : Word) (target : Target) : (⟨a, a, target⟩ : Segment).holds b = decide (b = a) := by
  simp only [Segment.holds, decide_eq_decide, BitVec.toNat_eq]
  omega

theorem place_attachCpu (s : State) (a : Word) :
    (attachCpu s).place a = if a = 0xFFFF then .ieReg else if a = 0xFF0F then .ifReg else s.place a := by
  simp [State.place, attachCpu, placeIn, holds_single, Segment.placeOf, Config.ieAddr, Config.ifAddr]

/-- R69: a reversed range, or one the block is too small for. -/
theorem busForcedPlug_range {s : State} {n : Nat} {c : Component} {offset : Nat} {first last : Word}
    (hc : s.components[n]? = some c)
    (h : first.toNat > last.toNat ∨ offset + (last.toNat - first.toNat + 1) > c.size s.blocks) :
    busForcedPlug n first last offset s = .fault (.addressError .range) := by
  rw [busForcedPlug, withComponent_some hc]
  cases hb : c.block with
  | none => rfl
  | some id =>
    simp only [Component.size, hb] at h
    exact if_pos h

/-- A component that a range fits has a block. -/
theorem block_of_size_pos {c : Component} {bs : List Block} (h : 0 < c.size bs) :
    ∃ id, c.block = some id ∧ c.size bs = blockSize bs id := by
  cases hb : c.block with
  | none => simp [Component.size, hb] at h
  | some id => exact ⟨id, rfl, by simp [Component.size, hb]⟩

theorem busUnplug_none {s : State} {n : Nat} {c : Component} (hc : s.components[n]? = some c) (hr : c.range = none) :
    busUnplug n s = .next s := by
  simp [busUnplug, withComponent_some hc, hr]

theorem getElem?_set_of_some {cs : List Component} {n : Nat} {c : Component} (hc : cs[n]? = some c) (d : Component) :
    (cs.set n d)[n]? = some d := List.getElem?_set_self (List.getElem?_eq_some_iff.1 hc).1

/-- Settles O42: each operation puts one stretch in front of the map, attaching the CPU two. -/
theorem mapMoves : Obligations.MapMoves := by
  intro s n c hc
  refine ⟨fun first last offset => ⟨busForcedPlug_range hc, fun hle hfit => ?_⟩, busUnplug_none hc, fun first last hr => ?_,
    place_attachCpu s⟩
  · obtain ⟨id, hid, hsize⟩ := block_of_size_pos (c := c) (bs := s.blocks) (by omega)
    exact ⟨id, _, hid, busForcedPlug_fits hc hid hle (hsize ▸ hfit), getElem?_set_of_some hc _, rfl, place_of_mem_stretch rfl⟩
  · exact ⟨_, busUnplug_plugged hc hr, components_unplugged hc first last, rfl, place_unplugged s n c first last⟩

/-! The boot-ROM-disable listener (R84). -/

theorem bootHook_none {s : State} (h : s.bootListener = none) (a : Word) : bootHook a s = .next s := by simp [bootHook, h]

theorem bootHook_of_not {s : State} {l : BootListener} {a : Word} (hl : s.bootListener = some l)
    (h : ¬ (a = 0xFF50 ∧ isPlugged s l.boot = true)) : bootHook a s = .next s := by
  simp only [bootHook, hl]
  exact if_neg h

theorem bootHook_plugged {s : State} {l : BootListener} (hl : s.bootListener = some l) (h : isPlugged s l.boot = true) :
    bootHook 0xFF50 s = applyMoves [.unplug l.boot, .forcedPlug l.cartridge 0x0000 0x7FFF 0] { s with bootListener := none } := by
  simp only [bootHook, hl]
  exact if_pos ⟨rfl, h⟩

theorem isPlugged_some {s : State} {n : Nat} {c : Component} (hc : s.components[n]? = some c) :
    isPlugged s n = c.range.isSome := by simp [isPlugged, hc]

theorem isPlugged_of_range_none {s : State} {n : Nat} (h : ∀ c, s.components[n]? = some c → c.range = none) :
    isPlugged s n = false := by
  unfold isPlugged
  split
  · rfl
  · next c hc => rw [h c hc]; rfl

/-- Two moves that succeed, one after the other. -/
theorem applyMoves_pair {m m' : EnvMove} {s t u : State} (h : applyMove m s = .next t) (h' : applyMove m' t = .next u) :
    applyMoves [m, m'] s = .next u := by
  simp [applyMoves, h, h', recover]

/-- Settles O53: the cartridge is plugged over the unplugged boot ROM. -/
theorem bootRomDisabledOnce : Obligations.BootRomDisabledOnce := by
  intro s a
  refine ⟨fun h => ?_, fun l hl hboot => ?_, fun l boot cart first last id hl hboot hrange hcart hblock hsize hne => ?_⟩
  · cases hl : s.bootListener with
    | none => exact bootHook_none hl a
    | some l => exact bootHook_of_not hl fun ⟨ha, _⟩ => by simp_all
  · exact bootHook_of_not hl (by simp [isPlugged_of_range_none hboot])
  · let s' := { s with bootListener := none }
    have hunplug : applyMove (.unplug l.boot) s' = .next (s'.unplugged l.boot boot first last) :=
      busUnplug_plugged (s := s') hboot hrange
    have hcart' : (s'.unplugged l.boot boot first last).components[l.cartridge]? = some cart :=
      (List.getElem?_set_ne hne).trans hcart
    have hplug := busForcedPlug_fits (offset := 0) (first := 0x0000) (last := 0x7FFF) hcart' hblock (by decide) hsize
    refine ⟨_, (bootHook_plugged hl (by rw [isPlugged_some hboot, hrange]; rfl)).trans (applyMoves_pair hunplug hplug), rfl, ?_,
      getElem?_set_of_some hcart' _, fun x => ?_, rfl⟩
    · exact (List.getElem?_set_ne hne.symm).trans (components_unplugged (s := s') hboot first last)
    · rw [place_of_mem_stretch (s := s'.unplugged l.boot boot first last) rfl, place_unplugged]
      have hx : (0 : Word).toNat ≤ x.toNat ∧ x.toNat ≤ (0x7FFF : Word).toNat ↔ x.toNat < 0x8000 := by
        simp; omega
      simp only [hx]
      simp [s', State.place]

/-! The map and the registers of reset (R51, R83, R361 to R363). -/

/-- Where an address stands, by the first stretch that holds it. -/
theorem placeIn_cons_eq_iff (g : Segment) (gs : List Segment) (a : Word) (p : Place) :
    placeIn (g :: gs) a = p ↔
      (g.first.toNat ≤ a.toNat ∧ a.toNat ≤ g.last.toNat) ∧ g.placeOf a = p ∨
        ¬ (g.first.toNat ≤ a.toNat ∧ a.toNat ≤ g.last.toNat) ∧ placeIn gs a = p := by
  by_cases h : g.first.toNat ≤ a.toNat ∧ a.toNat ≤ g.last.toNat <;> simp [placeIn, Segment.holds, h]

theorem placeIn_nil (a : Word) : placeIn [] a = .unmapped := rfl

theorem place_reset (a : Word) : State.reset.place a = placeIn platformCells a := rfl

theorem place_reset_unmapped (a : Word) : State.reset.place a = .unmapped ↔ 0xFEA0 ≤ a.toNat ∧ a.toNat ≤ 0xFEFF := by
  have := a.isLt
  simp [place_reset, platformCells, placeIn_cons_eq_iff, placeIn_nil, Segment.placeOf]
  omega

theorem place_reset_ie (a : Word) : State.reset.place a = .ieReg ↔ a = 0xFFFF := by
  have := a.isLt
  simp [place_reset, platformCells, placeIn_cons_eq_iff, placeIn_nil, Segment.placeOf, BitVec.toNat_eq]
  omega

theorem place_reset_if (a : Word) : State.reset.place a = .ifReg ↔ a = 0xFF0F := by
  simp [place_reset, platformCells, placeIn_cons_eq_iff, placeIn_nil, Segment.placeOf, BitVec.toNat_eq]
  omega

/-- Byte `k` of working RAM stands at its own address and at that of its echo, if it has one (R83). -/
theorem place_reset_work {k : Nat} (h : k < 0x2000) (a : Word) :
    State.reset.place a = .mem (16384 + k) ↔ a.toNat = 0xC000 + k ∨ a.toNat = 0xE000 + k ∧ k < 0x1E00 := by
  simp [place_reset, platformCells, placeIn_cons_eq_iff, placeIn_nil, Segment.placeOf]
  omega

theorem busRead_reset (a : Word) : busRead State.reset a = if State.reset.place a = .unmapped then 0xFF else 0x00 := by
  unfold busRead
  cases State.reset.place a <;> rfl

/-- Settles O57: the map decides what an address reads, and the assembly is run. -/
theorem resetValues : Obligations.ResetValues := by
  refine ⟨rfl, rfl, rfl, rfl, rfl, rfl, rfl, rfl, rfl, rfl, rfl, rfl, rfl, fun a => ?_, place_reset_unmapped, place_reset_ie,
    place_reset_if⟩
  simp only [busRead_reset, place_reset_unmapped]

/-- Settles O58: both ranges are the one block, and no other stretch of the map reaches its last 512 bytes. -/
theorem echoMirrorsWorkingRam : Obligations.EchoMirrorsWorkingRam := by
  refine ⟨⟨16384, rfl, rfl⟩, fun k hk => ?_, fun a b ha ha' hb => ?_⟩
  · have hwork : State.reset.place (BitVec.ofNat 16 (0xC000 + k)) = .mem (16384 + k) :=
      (place_reset_work (by omega) _).2 (.inl (by simp; omega))
    have hecho : State.reset.place (BitVec.ofNat 16 (0xE000 + k)) = .mem (16384 + k) :=
      (place_reset_work (by omega) _).2 (.inr ⟨by simp; omega, by omega⟩)
    rw [hwork, hecho]
    exact ⟨rfl, nofun⟩
  · have hwork : State.reset.place a = .mem (16384 + (a.toNat - 0xC000)) :=
      (place_reset_work (by omega) a).2 (.inl (by omega))
    have := (place_reset_work (by omega) b).1 (hb.trans hwork)
    exact BitVec.eq_of_toNat_eq (by omega)

end Sys2Proof.Machine

/-! The timer (spec/60_exceptions.md, R330 to R334): counting an edge is one rule, used by the timer's cycle and by its hook. -/

namespace Sys2Proof.Machine

open Sys2Proof.Terms

/-! The tap state (R330). -/

theorem tapBit_eq (tac : Byte) : tapBit tac = tapOf tac := by
  have h0 : tac.getLsbD 0 = decide (tac.toNat % 2 = 1) := by simp [BitVec.getLsbD, Nat.testBit_zero]
  have h1 : tac.getLsbD 1 = decide (tac.toNat / 2 % 2 = 1) := by simp [BitVec.getLsbD, Nat.testBit_eq_decide_div_mod_eq]
  unfold tapBit tapOf
  rw [h0, h1]
  split <;> simp only [decide_eq_true_eq, decide_eq_false_iff_not] at * <;> split_ifs <;> omega

theorem timerState_eq (s : State) : timerState s = tapState (busRead s 0xFF07) s.counter := by
  rw [timerState, tapState, tapBit_eq]
  rfl

theorem tapState_zero (tac : Byte) : tapState tac 0 = false := by simp [tapState]

/-! TIMA counts (R333). -/

/-- The byte TIMA goes on to. -/
def timaNext (s : State) : Byte := if busRead s 0xFF05 = 0xFF then busRead s 0xFF06 else busRead s 0xFF05 + 1

/-- The state after TIMA has counted: see `timaIncrement_mapped`. -/
def State.counted (s : State) : State :=
  if busRead s 0xFF05 = 0xFF then
    { poke s 0xFF05 (timaNext s) with iflag := (poke s 0xFF05 (timaNext s)).iflag ||| 0x04 }
  else poke s 0xFF05 (timaNext s)

theorem timaIncrement_reload {s : State} (h : busRead s 0xFF05 = 0xFF) :
    timaIncrement s = mapNext (busWrite s 0xFF05 (timaNext s)) fun t => { t with iflag := t.iflag ||| 0x04 } := by
  rw [timaNext, if_pos h]
  exact if_pos h

theorem timaIncrement_count {s : State} (h : busRead s 0xFF05 ≠ 0xFF) : timaIncrement s = busWrite s 0xFF05 (timaNext s) := by
  rw [timaNext, if_neg h]
  exact if_neg h

theorem timaIncrement_mapped {s : State} (h : s.place 0xFF05 ≠ .unmapped) : timaIncrement s = .next s.counted := by
  by_cases hff : busRead s 0xFF05 = 0xFF
  · rw [timaIncrement_reload hff, busWrite_mapped _ _ _ h, State.counted, if_pos hff, mapNext_next]
  · rw [timaIncrement_count hff, busWrite_mapped _ _ _ h, State.counted, if_neg hff]

theorem timaIncrement_unmapped {s : State} (h : s.place 0xFF05 = .unmapped) :
    timaIncrement s = .fault (.unmappedWrite 0xFF05) := by
  by_cases hff : busRead s 0xFF05 = 0xFF
  · rw [timaIncrement_reload hff, busWrite_unmapped _ _ _ h, mapNext_fault]
  · rw [timaIncrement_count hff, busWrite_unmapped _ _ _ h]

/-- Settles O50: one raw store of TIMA's next byte, and the request after a reload. -/
theorem timaIncrementAndReload : Obligations.TimaIncrementAndReload := by
  intro s
  refine ⟨timaIncrement_unmapped, fun h => ⟨_, storedByte_poke h (timaNext s), poke_frame s _ _, ?_⟩⟩
  exact timaIncrement_mapped h.2

/-! Counting an edge (R332). -/

/-- `t` is `s` after an edge, if there is one, has been counted. -/
structure Counts (s : State) (edge : Bool) (t : State) : Prop where
  frame : t = { s with iflag := countedIF s edge, mem := t.mem }
  reads : ∀ b, busRead t b = countedRead s edge b (busRead s b)
  bytes : ∀ k, Memory.read t.mem k = countedByte s edge k

theorem counts_none (s : State) : Counts s false s :=
  ⟨by simp [countedIF], fun b => by simp [countedRead], fun k => by simp [countedByte]⟩

/-- A read after IF alone has changed. -/
theorem busRead_iflag (s : State) (f : Byte) (b : Word) :
    busRead { s with iflag := f } b = if s.place b = .ifReg then f else busRead s b := by
  have hplace : ({ s with iflag := f } : State).place b = s.place b := rfl
  unfold busRead
  rw [hplace]
  cases s.place b <;> simp

/-- A store to a byte of the store changes the store alone. -/
theorem poke_frame_mem {s : State} {a : Word} (hie : s.place a ≠ .ieReg) (hif : s.place a ≠ .ifReg) (v : Byte) :
    poke s a v = { s with mem := (poke s a v).mem } := by
  have h := poke_frame s a v
  rwa [ie_poke, if_neg hie, iflag_poke, if_neg hif] at h

theorem counts_counted {s : State} {i : Nat} (hwf : Memory.wf s.mem = true) (hi : s.place 0xFF05 = .mem i) :
    Counts s true s.counted := by
  have hmapped : s.place 0xFF05 ≠ .unmapped := by rw [hi]; nofun
  have hnotif : s.place 0xFF05 ≠ .ifReg := by rw [hi]; nofun
  have hnotie : s.place 0xFF05 ≠ .ieReg := by rw [hi]; nofun
  have hreads := fun b => busRead_poke s 0xFF05 b (timaNext s) hwf hmapped
  have hbytes := fun k => memRead_poke s 0xFF05 (timaNext s) k hwf
  have hif := (iflag_poke s 0xFF05 (timaNext s)).trans (if_neg hnotif)
  have hframe := poke_frame_mem hnotie hnotif (timaNext s)
  by_cases hff : busRead s 0xFF05 = 0xFF
  · rw [State.counted, if_pos hff, hif]
    refine ⟨?_, fun b => ?_, fun k => ?_⟩
    · rw [countedIF, if_pos ⟨rfl, hff⟩]
      exact congrArg (fun t : State => { t with iflag := s.iflag ||| 0x04 }) hframe
    · rw [busRead_iflag, place_poke, hreads, countedRead]
      by_cases hb : s.place b = s.place 0xFF05
      · rw [if_neg fun h => hnotif (hb.symm.trans h), if_pos hb, if_pos ⟨rfl, hb⟩]
        rfl
      · rw [if_neg hb, if_neg (c := true = true ∧ s.place b = s.place 0xFF05) fun h => hb h.2]
        exact if_congr ⟨fun h => ⟨rfl, hff, h⟩, fun h => h.2.2⟩ rfl rfl
    · exact (hbytes k).trans (if_congr (by simp) rfl rfl)
  · rw [State.counted, if_neg hff]
    refine ⟨?_, fun b => ?_, fun k => ?_⟩
    · rw [countedIF, if_neg fun h => hff h.2]
      exact hframe
    · rw [hreads, countedRead]
      exact if_congr (by simp) rfl (if_neg fun h => hff h.2.1).symm
    · exact (hbytes k).trans (if_congr (by simp) rfl rfl)

/-- `t` is `s` after an edge, if there is one, has been counted and the latch has taken the tap state `after` (R332). -/
structure EdgeCounted (s : State) (edge after : Bool) (t : State) : Prop where
  frame : t = { s with tapPrev := after, iflag := countedIF s edge, mem := t.mem }
  reads : ∀ b, busRead t b = countedRead s edge b (busRead s b)
  bytes : ∀ k, Memory.read t.mem k = countedByte s edge k

theorem Counts.latch {s t : State} {edge : Bool} (h : Counts s edge t) (after : Bool) :
    EdgeCounted s edge after { t with tapPrev := after } :=
  ⟨congrArg (fun t : State => { t with tapPrev := after }) h.frame, h.reads, h.bytes⟩

theorem countEdge_counts {s : State} (hwf : Memory.wf s.mem = true) (ht : TimerMapped s) (before after : Bool) :
    ∃ t, countEdge before after s = .next t ∧ EdgeCounted s (before && !after) after t := by
  obtain ⟨_, i, _, _, _, hi, _⟩ := ht
  have hmapped : s.place 0xFF05 ≠ .unmapped := by rw [hi]; nofun
  unfold countEdge
  cases before && !after with
  | true => exact ⟨_, by rw [if_pos rfl, timaIncrement_mapped hmapped, mapNext_next], (counts_counted hwf hi).latch after⟩
  | false => exact ⟨_, rfl, (counts_none s).latch after⟩

/-! The hook of a CPU store (R334). -/

theorem timerWriteHook_div (s : State) :
    timerWriteHook 0xFF04 s = countEdge (tapState (busRead s 0xFF07) s.counter) false { s with counter := 0 } := by
  have hzero : timerState { s with counter := 0 } = false := (timerState_eq _).trans (tapState_zero _)
  rw [← timerState_eq, ← hzero]
  rfl

theorem timerWriteHook_tac (s : State) :
    timerWriteHook 0xFF07 s = countEdge s.tapPrev (tapState (busRead s 0xFF07) s.counter) s := by
  rw [← timerState_eq]
  rfl

/-- Settles O52: each store counts one edge; what it reads does not depend on the counter. -/
theorem timerHookReacts : Obligations.TimerHookReacts := by
  intro s a hwf ht tac now
  refine ⟨?_, ?_, fun hdiv htac => (if_neg hdiv).trans (if_neg htac)⟩
  · rintro rfl
    obtain ⟨t, hc, h⟩ := countEdge_counts (s := { s with counter := 0 }) hwf ht now false
    rw [Bool.not_false, Bool.and_true] at h
    exact ⟨t, (timerWriteHook_div s).trans hc, h.frame, h.reads, h.bytes⟩
  · rintro rfl
    obtain ⟨t, hc, h⟩ := countEdge_counts hwf ht s.tapPrev now
    exact ⟨t, (timerWriteHook_tac s).trans hc, h.frame, h.reads, h.bytes⟩

/-! The timer's cycle (R331). -/

/-- What the counter moves on to in a timer cycle. -/
def State.counterNext (s : State) : Word := s.counter + BitVec.ofNat 16 s.params.timerInc

/-- The state in which a timer cycle looks for an edge: the counter moved on and shown at DIV. -/
def State.divShown (s : State) : State := poke { s with counter := s.counterNext } 0xFF04 (hi8 s.counterNext)

section
variable {s : State} (hwf : Memory.wf s.mem = true) (ht : TimerMapped s)

include ht in
/-- DIV's cell is a byte of the store, and not that of another timer register. -/
theorem TimerMapped.div : s.place 0xFF04 ≠ .unmapped ∧ s.place 0xFF04 ≠ .ieReg ∧ s.place 0xFF04 ≠ .ifReg ∧
    s.place 0xFF05 ≠ s.place 0xFF04 ∧ s.place 0xFF06 ≠ s.place 0xFF04 ∧ s.place 0xFF07 ≠ s.place 0xFF04 := by
  obtain ⟨d, i, m, c, hd, hi, hm, hc, hdi, hdm, hdc, -⟩ := ht
  rw [hd, hi, hm, hc]
  simp [hdi.symm, hdm.symm, hdc.symm]

include ht in
theorem divShown_frame : s.divShown = { s with counter := s.counterNext, mem := s.divShown.mem } := by
  obtain ⟨_, hie, hif, _⟩ := TimerMapped.div ht
  exact poke_frame_mem (s := { s with counter := s.counterNext }) hie hif _

include hwf ht in
theorem busRead_divShown (b : Word) :
    busRead s.divShown b = if s.place b = s.place 0xFF04 then hi8 s.counterNext else busRead s b :=
  busRead_poke { s with counter := s.counterNext } 0xFF04 b _ hwf (TimerMapped.div ht).1

include hwf in
theorem memRead_divShown (k : Nat) :
    Memory.read s.divShown.mem k = if s.place 0xFF04 = .mem k then hi8 s.counterNext else Memory.read s.mem k :=
  memRead_poke { s with counter := s.counterNext } 0xFF04 _ k hwf

theorem place_divShown (b : Word) : s.divShown.place b = s.place b := place_poke _ _ _ _

include hwf ht in
theorem timerCycle_eq :
    timerCycle s = countEdge (tapState (busRead s 0xFF07) s.counter) (tapState (busRead s 0xFF07) s.counterNext) s.divShown := by
  obtain ⟨hmapped, _, _, _, _, htac⟩ := TimerMapped.div ht
  have hafter : timerState s.divShown = tapState (busRead s 0xFF07) s.counterNext := by
    rw [timerState_eq, busRead_divShown hwf ht, if_neg htac, divShown_frame ht]
  rw [← timerState_eq, ← hafter]
  exact congrArg (onNext · fun u => countEdge (timerState s) (timerState u) u)
    (busWrite_mapped { s with counter := s.counterNext } 0xFF04 _ hmapped)

include hwf ht in
/-- An edge counted after DIV has changed leaves TIMA and IF as one counted before. -/
theorem counted_divShown (edge : Bool) :
    countedIF s.divShown edge = countedIF s edge ∧
      (∀ b other, countedRead s.divShown edge b other = countedRead s edge b other) ∧
      ∀ k, countedByte s.divShown edge k =
        if s.place 0xFF04 = .mem k then hi8 s.counterNext else countedByte s edge k := by
  obtain ⟨_, _, _, htima, htma, _⟩ := TimerMapped.div ht
  have hreadTima := (busRead_divShown hwf ht 0xFF05).trans (if_neg htima)
  have hreadTma := (busRead_divShown hwf ht 0xFF06).trans (if_neg htma)
  have hif : s.divShown.iflag = s.iflag := by rw [divShown_frame ht]
  refine ⟨?_, fun b other => ?_, fun k => ?_⟩
  · rw [countedIF, countedIF, hreadTima, hif]
  · simp only [countedRead, place_divShown, hreadTima, hreadTma, hif]
  · simp only [countedByte, place_divShown, hreadTima, hreadTma, memRead_divShown hwf]
    by_cases hk : s.place 0xFF04 = .mem k
    · rw [if_pos hk, if_pos hk]
      exact if_neg fun h => htima (h.2.trans hk.symm)
    · rw [if_neg hk, if_neg hk]

include ht in
/-- An edge changes nothing at DIV's address. -/
theorem countedRead_div {b : Word} (hb : s.place b = s.place 0xFF04) (edge : Bool) (other : Byte) :
    countedRead s edge b other = other := by
  obtain ⟨_, _, hif, htima, _, _⟩ := TimerMapped.div ht
  rw [countedRead, if_neg fun h => htima (h.2.symm.trans hb), if_neg fun h => hif (hb.symm.trans h.2.2)]

end

/-- Settles O51: DIV is shown, and then an edge is counted, which touches no byte of DIV. -/
theorem timerCycleCounts : Obligations.TimerCycleCounts := by
  intro s hwf ht counter tac edge
  have hmapped : TimerMapped s.divShown := by simpa only [TimerMapped, place_divShown] using ht
  obtain ⟨t, hc, h⟩ := countEdge_counts (s := s.divShown) (wf_poke _ _ _ hwf) hmapped (tapState tac s.counter) (tapState tac counter)
  obtain ⟨hif, hread, hbyte⟩ := counted_divShown hwf ht edge
  refine ⟨t, (timerCycle_eq hwf ht).trans hc, ?_, fun b => ?_, fun k => (h.bytes k).trans (hbyte k)⟩
  · refine h.frame.trans ?_
    rw [hif]
    exact congrArg (fun u : State => { u with tapPrev := tapState tac counter, iflag := countedIF s edge, mem := t.mem })
      (divShown_frame ht)
  · rw [h.reads, hread, busRead_divShown hwf ht]
    by_cases hb : s.place b = s.place 0xFF04
    · rw [if_pos hb, if_pos hb]
      exact countedRead_div ht hb edge _
    · rw [if_neg hb, if_neg hb]

end Sys2Proof.Machine
